-- ==== Sys2Proof/Word.lean ====
section
/-! DEFINITION. The words of the links: a byte and a block of 4096 bytes (00_scope.md, Units). -/

namespace Sys2Proof

/-- A byte of a record. -/
abbrev Byte := BitVec 8

/-- A block of 4096 bytes, its byte 0 in its lowest eight bits (R179, Byte order). -/
abbrev Block := BitVec 32768

/-- Bytes in a block. -/
abbrev blockBytes : Nat := 4096

/-- Blocks in an extent (1 GiB). -/
abbrev extentBlocks : Nat := 262144

/-- Blocks in a chunk (4 MiB). -/
abbrev chunkBlocks : Nat := 1024

/-- Records in a section of the Extent Map. -/
abbrev sectionRecords : Nat := 1024

end Sys2Proof
end

