-- ==== Sys2Proof/Syntax.lean ====
section
/-! DEFINITION. The commands: one constructor of `Instr` for each row of spec/opcode_table.json, with the records and arguments they
carry. Arguments of management requests are natural numbers and codes as R179 encodes names, so that every value a request can carry
reaches the check that refuses it. -/

namespace Sys2Proof

/-- A host link port (R25). -/
inductive HostPort where
  | hp0
  | hp1
  deriving DecidableEq, Repr, Inhabited

/-- The other host port. -/
def HostPort.other : HostPort → HostPort
  | .hp0 => .hp1
  | .hp1 => .hp0

/-- The number of a host port. -/
def HostPort.toNat : HostPort → Nat
  | .hp0 => 0
  | .hp1 => 1

/-- Command kinds (R25); an unknown value keeps its code. -/
inductive Kind where
  | read
  | write
  | flush
  | discard
  | size
  | format
  | control
  | unknown (code : Byte)
  deriving DecidableEq, Repr

/-- A command record with its outgoing data; no block of data is "absent" (R25). -/
structure CommandRecord where
  initiator : BitVec 32
  tag : BitVec 16
  kind : Kind
  volume : Byte
  start : BitVec 64
  length : BitVec 16
  data : List Block
  deriving DecidableEq, Repr

/-- The phase of a lane fragment (R143). -/
inductive Phase where
  | reading
  | writing
  deriving DecidableEq, Repr

/-- A handle, in its three forms (R143); any other form names nothing. -/
inductive Handle where
  | pool (number : Fin 4096) (use : Byte)
  | lane (lane : Fin 4) (seq : Byte) (phase : Phase) (piece : Fin 64)
  | slotFlush (slot : Fin 4) (seq : Byte)
  | unknown (form : Byte) (raw : BitVec 32)
  deriving DecidableEq, Repr

/-- A shelf completion record: the outcome is its byte (R143, R179). -/
structure CompletionRecord where
  handle : Handle
  outcome : Byte
  data : List Block
  deriving DecidableEq, Repr

/-- A slot entry of an inventory or slot-change report: presence is its byte (R179). -/
structure SlotEntry where
  presence : Byte
  capacity : BitVec 48
  deriving DecidableEq, Repr

/-- State of an extent record (R7). -/
inductive ExtState where
  | zero
  | plain
  | moving
  | zeroing
  deriving DecidableEq, Repr

/-- An Extent Map record (R6). -/
structure ExtRec where
  group : Byte
  band : BitVec 16
  state : ExtState
  slot : Option (Fin 4)
  gen : BitVec 16
  tag : BitVec 16
  deriving DecidableEq, Repr

/-- A member as LOAD GROUP lists it (R14). -/
structure MemberArg where
  port : Nat
  drive : Nat
  base : Nat
  deriving DecidableEq, Repr

/-- A record as LOAD EXTENTS lists it; the state is its code (R10, R179). -/
structure ExtentArg where
  group : Nat
  band : Nat
  state : Nat
  gen : BitVec 16
  tag : BitVec 16
  deriving DecidableEq, Repr

/-- The outcome of a RESOLVE (R124): COMPLETE with a status code and the fields of R125, PASS, or another code. -/
inductive ResolveArg where
  | complete (status : Nat) (block port reason : Option Nat)
  | pass
  | other (code : Nat)
  deriving DecidableEq, Repr

/-- A condition and its instance as CLEAR FAULTS names them; code 255 is ALL (R159, R179). -/
structure FaultItem where
  cond : Nat
  inst : Nat
  deriving DecidableEq, Repr

/-- An item of a mask list: a name code (255 is ALL) and masked or unmasked (R161, R164). -/
structure MaskItem where
  name : Nat
  masked : Nat
  deriving DecidableEq, Repr

/-- A first-level item of SET FAULT MASKS (R161). -/
structure FaultMaskItem where
  cond : Nat
  inst : Nat
  masked : Nat
  deriving DecidableEq, Repr

/-- The commands of the part: one constructor for each row of spec/opcode_table.json. -/
inductive Instr where
  | commandRecord (port : HostPort) (record : CommandRecord)
  | takeQueueHead (port : HostPort)
  | serveReentry
  | hostPortReset (port : HostPort)
  | shelfCompletionRecord (port : Fin 8) (record : CompletionRecord)
  | fragmentTimerExpiry (number : Fin 4096)
  | laneFragmentTimerExpiry (lane : Fin 4) (piece : Fin 64)
  | flushFragmentTimerExpiry (slot : Fin 4) (seq : Byte) (port : Fin 8)
  | laneGrant
  | takeGrant (slot : Fin 4)
  | copyCompletion (lane : Fin 4)
  | cutoverTimerExpiry (slot : Fin 4)
  | portExitReport (slot : Fin 4) (port : Fin 8)
  | fenceReport (slot : Fin 4)
  | diversionTimerExpiry (entry : Fin 16)
  | windowEnd
  | scrubVisit
  | currentFault (port : Fin 8)
  | settleTimerExpiry (port : Fin 8)
  | inventoryReport (port : Fin 8) (entries : List SlotEntry)
  | linkTimerExpiry (port : Fin 8)
  | slotChangeReport (port : Fin 8) (drive : Byte) (entry : SlotEntry)
  | shelfLinkLoss (port : Fin 8)
  | resetnAssert
  | resetnRelease
  | loadGroup (group unit width bands : Nat) (members : List MemberArg)
  | activateGroup (group : Nat)
  | deactivateGroup (group : Nat)
  | readGroup (group first count : Nat)
  | loadVolume (volume mapBase reserved divert : Nat)
  | setVolumeState (volume state : Nat)
  | readVolume (volume : Nat)
  | loadExtents (volume first : Nat) (records : List ExtentArg)
  | readExtents (volume first count : Nat)
  | loadInitiator (id : BitVec 32) (port : Nat) (rights : List Nat) (manage : Nat)
  | dropInitiator (id : BitVec 32) (port : Nat)
  | readInitiators (first count : Nat)
  | growVolume (volume : Nat) (locations : List (Nat × Nat))
  | migrate (volume extent group band : Nat) (gen : BitVec 16)
  | abortMigration (volume extent : Nat) (gen : BitVec 16)
  | pauseSlot (slot : Nat)
  | resumeSlot (slot : Nat)
  | readSlot (slot : Nat)
  | setCopyPolicy (lanes mode threshold limit timeout : Option Nat)
  | setGovernor (window level : Option Nat)
  | readSample
  | setDivert (part : Option (Nat × Nat)) (timeout : Option Nat)
  | readDiversions
  | resolve (entry : Nat) (use : Byte) (outcome : ResolveArg)
  | setPowerMode (mode : Nat)
  | powerShelves (value : Nat)
  | powerPort (port value follow : Nat)
  | resetShelfPort (port : Nat)
  | readShelf (port : Nat)
  | setFragmentTimeout (timeout : Option Nat)
  | setScrub (interval : Option Nat)
  | checkDiagnostic (sect pattern : Nat)
  | readNotices
  | setNoticeMask (items : List MaskItem)
  | readFaults
  | clearFaults (items : List FaultItem)
  | setFaultMasks (first : List FaultMaskItem) (second : List MaskItem)
  | resetBridge
  | mapMemoryFault (index : Fin 65536) (record : ExtRec)
  | currentFaultDeassert (port : Fin 8)
  | unknownRequestCode (code : BitVec 16)
  deriving DecidableEq, Repr

end Sys2Proof
end

