-- ==== Sys2Proof/Decode.lean ====
section
/-! DEFINITION. The commands that a word spells by the bits of spec/opcode_table.json: none, because no row of the table gives bits
("fields" is empty in all 66; log 16). The records on the links are read and written in Machine/Wire.lean. -/

namespace Sys2Proof

/-- The command that a word of `nbits` bits spells by the table: no row gives bits, so none. -/
def decodeTableWord (_nbits _w : Nat) : Option Instr := none

end Sys2Proof
end

