-- ==== Sys2Proof/Config.lean ====
section
/-! DEFINITION. The free values: what the spec gives the part to use and does not state, and the choices of order that it leaves open. None
has a body, so nothing proved of the model can rest on a value of one (logs 7, 8, 9, 10 and 26). -/

namespace Sys2Proof

/-- A block of READ data that an OK completion did not bring, although R143 says it brings count blocks. The argument is the count of
free blocks used before it. -/
opaque Config.missingBlock : Nat → Block

/-- The stripe unit (one of the five, by its place in R13's list) used for a group never loaded, which only a damaged record can name
(R148: "used as it now stands"). -/
opaque Config.strayUnit : Nat → Fin 5

/-- The member drives (port, drive slot, base) used for a group never loaded (R148). -/
opaque Config.strayMembers : Nat → List (Nat × Nat × Nat)

/-- The chunk state read for a ZEROING record that names no claimed slot (R148): by record index and chunk, in the order of R53's
table. -/
opaque Config.strayChunk : Nat → Nat → Fin 4

/-- Whether a pass that is due to end waits for the commands on the re-entry list: 3.10 tells both orders (log 9). The argument is the
count of free values used before it. -/
opaque Config.passWaits : Nat → Bool

/-- Whether a slot takes SHELF-LOST, at a port's exit, before the NOT-PRESENT of its target flush fragment there: R70 and R141 allow both
orders (log 10). The argument is as above. -/
opaque Config.lossFirst : Nat → Bool

/-- Whether the request at the head of the management queue has begun to execute when a host port reset takes its CONTROL away: R168 says
that the head is the one executing or the next to execute (log 26). The argument is as above. -/
opaque Config.requestBegun : Nat → Bool

end Sys2Proof
end

