-- ==== Sys2Proof/Machine/State.lean ====
section
/-! DEFINITION. The state of the part, grouped by owning block (00_scope.md), as plain data; the machine right after power-on reset; the
reasons a step can stop. -/

namespace Sys2Proof.Machine

/-- A table by number, held as a list of (number, value) pairs with the numbers strictly rising; what an unlisted number holds is
said where the table is read. -/
abbrev Tbl (α : Type) := List (Nat × α)

/-! ### LMU -/

/-- A location: group and band (R6). -/
structure Loc where
  group : Nat
  band : Nat
  deriving DecidableEq, Repr, Inhabited

/-- The state of a loaded volume (R1). -/
inductive VolState where
  | offline
  | online
  deriving DecidableEq, Repr

/-- A loaded Volume Table entry (R1). -/
structure Volume where
  state : VolState
  mapBase : Nat
  reserved : Nat
  count : Nat
  divertDiscard : Bool
  divertFlush : Bool
  deriving DecidableEq, Repr

/-- The five stripe units (R13). -/
inductive StripeUnit where
  | u16
  | u32
  | u64
  | u128
  | u256
  deriving DecidableEq, Repr

/-- A member of a group (R13). -/
structure Member where
  port : Nat
  drive : Nat
  base : Nat
  deriving DecidableEq, Repr, Inhabited

/-- The layout fields of a group; the member count W is the length of the list (R13). -/
structure Layout where
  unit : StripeUnit
  bands : Nat
  members : List Member
  deriving DecidableEq, Repr

/-- A descriptor that is LOADED or ACTIVE; an EMPTY one is not listed (R13). -/
structure Group where
  active : Bool
  layout : Layout
  deriving DecidableEq, Repr

/-- The holder of a band: kinds 1, 2 and 3 (R19). -/
inductive Holder where
  | record (index : Nat)
  | target (slot : Nat)
  | retiring (slot : Nat)
  deriving DecidableEq, Repr

/-- The Layout Map Unit. -/
structure Lmu where
  volumes : Tbl Volume
  extents : Tbl ExtRec
  groups : Tbl Group
  bands : Tbl Holder
  deriving DecidableEq, Repr

/-! ### HLI and CAU -/

/-- The Host Link Interface: the two admission queues and the served-last marker (R27, R28). -/
structure Hli where
  queue0 : List CommandRecord
  queue1 : List CommandRecord
  servedLast : HostPort
  deriving DecidableEq, Repr

/-- The right on one volume (R30). -/
inductive Right where
  | none
  | read
  | readWrite
  deriving DecidableEq, Repr

/-- An Initiator Table entry in use (R30); `rights` is by volume, `sizePending` has a bit for each volume (R33). -/
structure Initiator where
  id : BitVec 32
  port : HostPort
  rights : List Right
  manage : Bool
  sizePending : BitVec 16
  deriving DecidableEq, Repr

/-- The Command Admission Unit. -/
structure Cau where
  initiators : Tbl Initiator
  deriving DecidableEq, Repr

/-! ### FRE -/

/-- How a fragment completes (R46). -/
inductive FragOutcome where
  | ok
  | mediumError
  | notPresent
  | timeout
  deriving DecidableEq, Repr

/-- What a Command Table entry in ISSUED holds besides its record (R42). -/
structure Issue where
  outstanding : Nat
  failure : Option (Nat × FragOutcome)
  gathered : Tbl Block
  abort : Bool
  deriving DecidableEq, Repr

/-- The state of a command holding an entry (R42). -/
inductive CmdState where
  | parked
  | diverted
  | waiting
  | managing
  | issued (issue : Issue)
  deriving DecidableEq, Repr

/-- A Command Table entry in use (R42). -/
structure Command where
  record : CommandRecord
  port : HostPort
  state : CmdState
  deriving DecidableEq, Repr

/-- Where a returning command re-enters the checks (R41). -/
inductive EntryPoint where
  | check6
  | check8
  deriving DecidableEq, Repr

/-- The kinds a fragment can have (R45, R143). -/
inductive FragKind where
  | read
  | write
  | flush
  | discard
  deriving DecidableEq, Repr

/-- The drive blocks of a READ, WRITE or DISCARD fragment (R45). -/
structure FragAddr where
  vbn : Nat
  drive : Nat
  dbn : Nat
  count : Nat
  deriving DecidableEq, Repr

/-- A migration mark (R47). -/
structure Mark where
  slot : Nat
  index : Nat
  chunk : Nat
  write : Bool
  deriving DecidableEq, Repr

/-- A drawn fragment (R45); no owner is "orphaned", no address is a FLUSH. -/
structure Fragment where
  owner : Option Nat
  kind : FragKind
  port : Nat
  addr : Option FragAddr
  mark : Option Mark
  timer : Nat
  deriving DecidableEq, Repr

/-- The Fragment Engine: Command Table, re-entry list, Fragment Pool, use counts (0 where unlisted), fragment timeout in s. -/
structure Fre where
  commands : Tbl Command
  reentry : List (Nat × EntryPoint)
  frags : Tbl Fragment
  useCounts : Tbl Byte
  timeout : Nat
  deriving DecidableEq, Repr

/-! ### MGC -/

/-- The state of a chunk (R53). -/
inductive ChunkState where
  | dirty
  | copying
  | stale
  | clean
  deriving DecidableEq, Repr

/-- The state of a claimed slot (R51). -/
inductive SlotState where
  | copying
  | cutover
  | retiring
  | abandoning
  | zeroing
  | ending
  deriving DecidableEq, Repr

/-- The fields of a slot of kind MOVE only (R51, R106). -/
structure Move where
  target : Loc
  pass : Nat
  sweep : Nat
  attempts : Nat
  flushOut : Nat
  timer : Option Nat
  deriving DecidableEq, Repr

/-- The fields a claimed slot holds (R51). `chunks` lists the chunks that are not DIRTY; `drain` the fragments the pre-move drain counts
(R57); a slot is of kind MOVE exactly when `move` is present. -/
structure Claim where
  state : SlotState
  volume : Nat
  extent : Nat
  index : Nat
  source : Loc
  chunks : Tbl ChunkState
  drain : List Nat
  hold : List Nat
  move : Option Move
  deriving DecidableEq, Repr

/-- Why a slot was last abandoned (R51). -/
inductive Reason where
  | none
  | abort
  | targetError
  | sourceError
  | cutoverTimeout
  | mapFault
  | shelfLost
  deriving DecidableEq, Repr

/-- A migration slot: its claim (absent when FREE) and its kept fields (R51); `writeCounts` lists the counts that are not 0. -/
structure Slot where
  claim : Option Claim
  pause : Bool
  writeCounts : Tbl Nat
  readCount : Nat
  flushSeq : Byte
  reason : Reason
  deriving DecidableEq, Repr

/-- A target flush fragment in flight (R68). -/
structure FlushFrag where
  slot : Nat
  seq : Byte
  port : Nat
  timer : Nat
  deriving DecidableEq, Repr

/-- The Migration Controller: slots, target flush fragments, the three values of R65 (timeout in ms), and the reports of R141 and R150
that a slot has not yet taken. -/
structure Mgc where
  slots : Tbl Slot
  flushFrags : List FlushFrag
  threshold : Nat
  passLimit : Nat
  cutoverTimeout : Nat
  exitReports : List (Nat × Nat)
  fenceReports : List Nat
  deriving DecidableEq, Repr

/-! ### CPM -/

/-- The state of a lane (R81). -/
inductive LaneState where
  | free
  | granted
  | reading
  | writing
  | stopping
  deriving DecidableEq, Repr

/-- The operation of a lane (R81). -/
inductive LaneOp where
  | copy
  | zeroFill
  deriving DecidableEq, Repr

/-- A lane fragment in flight (R83). -/
structure LaneFrag where
  seq : Byte
  phase : Phase
  piece : Nat
  port : Nat
  drive : Nat
  dbn : Nat
  count : Nat
  timer : Nat
  deriving DecidableEq, Repr

/-- A lane (R81); `frags` are the outstanding lane fragments, `buffer` the chunk buffer by block of the chunk. -/
structure Lane where
  state : LaneState
  slot : Option Nat
  op : Option LaneOp
  chunk : Option Nat
  source : Option Loc
  target : Option Loc
  seq : Byte
  frags : List LaneFrag
  failure : Option FragOutcome
  cancel : Bool
  buffer : Tbl Block
  deriving DecidableEq, Repr

/-- The priority mode of the arbiter (R89). -/
inductive Priority where
  | fixed
  | rotating
  deriving DecidableEq, Repr

/-- The Copy Mover and its Lane Arbiter. -/
structure Cpm where
  lanes : Tbl Lane
  laneCount : Nat
  priority : Priority
  rotation : Nat
  deriving DecidableEq, Repr

/-! ### ACG -/

/-- The latched sample (R96); `busy` is the busy set. -/
structure Sample where
  seq : BitVec 16
  length : Nat
  host : Tbl Nat
  copy : Tbl Nat
  busy : List Nat
  deriving DecidableEq, Repr

/-- The Activity Governor: counters by port, sample, settings, and the window in progress (its length and time left, ms). -/
structure Acg where
  hostCounts : Tbl Nat
  copyCounts : Tbl Nat
  sample : Sample
  windowLength : Nat
  busyLevel : Nat
  windowNow : Nat
  windowLeft : Nat
  deriving DecidableEq, Repr

/-! ### DVQ -/

/-- A Diversion Queue entry in use (R120): the diverted command's Command Table entry holds the copied fields. -/
structure Diversion where
  entry : Nat
  time : BitVec 32
  timer : Nat
  deriving DecidableEq, Repr

/-- The Diversion Queue (R120); the timeout is in s. -/
structure Dvq where
  entries : Tbl Diversion
  useCounts : Tbl Byte
  order : List Nat
  timeCount : BitVec 32
  timeout : Nat
  deriving DecidableEq, Repr

/-! ### SPC -/

/-- The state of a shelf port (R129). -/
inductive PortState where
  | off
  | powering
  | linking
  | online
  | faulted
  deriving DecidableEq, Repr

/-- Why a port is FAULTED (R129). -/
inductive Cause where
  | powerFault
  | linkLoss
  | linkTimeout
  deriving DecidableEq, Repr

/-- A shelf port with its switch, flags, latch and current-fault input level (R129, R130, R135). -/
structure Port where
  state : PortState
  cause : Option Cause
  output : Bool
  settle : Option Nat
  link : Option Nat
  switch : Bool
  follow : Bool
  latch : Bool
  faultInput : Bool
  deriving DecidableEq, Repr

/-- A Shelf Drive Table entry (R138). -/
structure Drive where
  present : Bool
  capacity : Nat
  changes : Byte
  deriving DecidableEq, Repr

/-- The power mode (R130). -/
inductive PowerMode where
  | unswitched
  | global
  | individual
  deriving DecidableEq, Repr

/-- The Shelf Port Controller. -/
structure Spc where
  mode : PowerMode
  globalSwitch : Bool
  ports : Tbl Port
  drives : Tbl Drive
  deriving DecidableEq, Repr

/-! ### MSB -/

/-- The cause in a fence record (R147). -/
inductive FenceCause where
  | mismatch
  | diagnostic
  deriving DecidableEq, Repr

/-- A fence record (R147). -/
structure FenceRec where
  cause : FenceCause
  computed : BitVec 32
  compared : BitVec 32
  deriving DecidableEq, Repr

/-- A section (R147). -/
structure Section where
  fenced : Bool
  check : BitVec 32
  reload : List Nat
  fence : Option FenceRec
  deriving DecidableEq, Repr

/-- The Map Scrubber (R147, R149, R153); times in ms. -/
structure Msb where
  sections : Tbl Section
  position : Nat
  cycle : BitVec 16
  interval : Nat
  left : Nat
  diagnostic : Option (Nat × Nat)
  deriving DecidableEq, Repr

/-! ### FNU and MGU -/

/-- The Fault and Notice Unit: the conditions of the first six rows of R156 in that order, the masks of all 102 and of the four
summaries, the notices of R162 and their masks, the link-reset counts (R157). -/
structure Fnu where
  conds : BitVec 100
  mask1 : BitVec 102
  mask2 : BitVec 4
  notices : BitVec 10
  noticeMask : BitVec 10
  resets0 : Nat
  resets1 : Nat
  deriving DecidableEq, Repr

/-- The management request queue, of Command Table entries, and the request that a host port reset left executing: its CONTROL is gone,
its response will be discarded, and until then it counts among the requests (R49, R168; log 26). -/
structure Mgu where
  queue : List Nat
  orphan : Option CommandRecord
  deriving DecidableEq, Repr

/-! ### What the part sends -/

/-- The host statuses (R26), in the order of their codes (R179). -/
inductive HostStatus where
  | good
  | notReady
  | accessDenied
  | outOfRange
  | invalidRequest
  | queueFull
  | busyRetry
  | sizeChanged
  | mapFault
  | deviceError
  | aborted
  deriving DecidableEq, Repr

/-- A status record (R26). -/
structure StatusRecord where
  tag : BitVec 16
  status : HostStatus
  reason : Option FragOutcome
  failingPort : Option Nat
  failingBlock : Option Nat
  capacity : Option Nat
  data : List Block
  deriving DecidableEq, Repr

/-- A record sent to a shelf: a fragment record (R143) or an inventory request (R137). -/
inductive ShelfRecord where
  | fragment (handle : Handle) (kind : FragKind) (drive : Option Nat) (dbn count : Nat) (data : List Block)
  | inventoryRequest
  deriving DecidableEq, Repr

/-- The refusal reasons (R170), in the order of their codes (R179). -/
inductive Refuse where
  | badArgument
  | state
  | conflict
  | stale
  | tooLate
  | noSuch
  | fenced
  | limit
  | busy
  deriving DecidableEq, Repr

/-- A management response: the code echoed, DONE (no reason) or REFUSED, ATTENTION, and the bytes of the body (R167, R170). -/
structure Response where
  code : BitVec 16
  refused : Option Refuse
  attention : Bool
  body : List Byte
  deriving DecidableEq, Repr

/-! ### The whole state -/

/-- The state of the part. `pending`, `hostOut`, `shelfOut`, `responses` and `freeCount` are the model's own (logs 3, 6, 7, 9, 10, 26). -/
structure State where
  pending : List Instr
  resetn : Bool
  lmu : Lmu
  hli : Hli
  cau : Cau
  fre : Fre
  mgc : Mgc
  cpm : Cpm
  acg : Acg
  dvq : Dvq
  spc : Spc
  msb : Msb
  fnu : Fnu
  mgu : Mgu
  hostOut : List (HostPort × StatusRecord)
  shelfOut : List (Nat × ShelfRecord)
  responses : List Response
  freeCount : Nat
  deriving DecidableEq, Repr

/-- The LMU after power-on reset: R5, R12, R18, R21. -/
def Lmu.reset : Lmu := { volumes := [], extents := [], groups := [], bands := [] }

/-- The HLI after power-on reset: R28, R29. -/
def Hli.reset : Hli := { queue0 := [], queue1 := [], servedLast := .hp1 }

/-- The FRE after power-on reset: R41, R45, R46, R50. -/
def Fre.reset : Fre := { commands := [], reentry := [], frags := [], useCounts := [], timeout := 8 }

/-- The MGC after power-on reset: R65, R79. -/
def Mgc.reset : Mgc :=
  { slots := [], flushFrags := [], threshold := 4, passLimit := 5, cutoverTimeout := 500, exitReports := [], fenceReports := [] }

/-- The CPM after power-on reset: R88, R94. -/
def Cpm.reset : Cpm := { lanes := [], laneCount := 2, priority := .rotating, rotation := 3 }

/-- The sample after power-on reset and RESET BRIDGE: R100. -/
def Sample.initial : Sample := { seq := 0, length := 0, host := [], copy := [], busy := [] }

/-- The ACG after power-on reset: R100. -/
def Acg.reset : Acg :=
  { hostCounts := [], copyCounts := [], sample := .initial, windowLength := 100, busyLevel := 0, windowNow := 100, windowLeft := 100 }

/-- The DVQ after power-on reset: R128. -/
def Dvq.reset : Dvq := { entries := [], useCounts := [], order := [], timeCount := 0, timeout := 20 }

/-- The SPC after power-on reset: R146. -/
def Spc.reset : Spc := { mode := .individual, globalSwitch := false, ports := [], drives := [] }

/-- The MSB after power-on reset: R155. -/
def Msb.reset : Msb := { sections := [], position := 0, cycle := 0, interval := 10, left := 10, diagnostic := none }

/-- The FNU after power-on reset: R166. -/
def Fnu.reset : Fnu :=
  { conds := 0, mask1 := 0, mask2 := 0, notices := 0, noticeMask := 0, resets0 := 0, resets1 := 0 }

/-- The MGU after power-on reset: R168. -/
def Mgu.reset : Mgu := { queue := [], orphan := none }

/-- The part right after the release of RESETn: R178. -/
def State.reset : State :=
  { pending := [], resetn := false, lmu := .reset, hli := .reset, cau := ⟨[]⟩, fre := .reset, mgc := .reset, cpm := .reset,
    acg := .reset, dvq := .reset, spc := .reset, msb := .reset, fnu := .reset, mgu := .reset, hostOut := [], shelfOut := [],
    responses := [], freeCount := 0 }

/-! ### Why a step can stop -/

/-- The machine stops with a fault: nothing in the spec does that, so there is no constructor and no command raises one. -/
inductive Fault where
  deriving DecidableEq, Repr

/-- A command without a meaning. -/
inductive Refusal where
  /-- Raised by `exec` for a row of the table that has no meaning yet: by none, every row has its meaning. Safe. -/
  | notModelled (mnemonic : String)
  deriving DecidableEq, Repr

end Sys2Proof.Machine
end

