-- ==== Sys2Proof/Machine/Tbl.lean ====
section
/-! DEFINITION. The operations on tables by number: lookup, insertion in order, removal, and the lowest free number. -/

namespace Sys2Proof.Machine

/-- What a table lists for a number. -/
def Tbl.find {α : Type} : Tbl α → Nat → Option α
  | [], _ => none
  | (i, x) :: t, k => if i = k then some x else Tbl.find t k

/-- What a table lists for a number, or a value for the unlisted ones. -/
def Tbl.getD {α : Type} (t : Tbl α) (k : Nat) (d : α) : α := (Tbl.find t k).getD d

/-- List a value for a number, keeping the numbers rising. -/
def Tbl.ins {α : Type} : Tbl α → Nat → α → Tbl α
  | [], k, v => [(k, v)]
  | (i, x) :: t, k, v =>
    if k < i then (k, v) :: (i, x) :: t else if k = i then (k, v) :: t else (i, x) :: Tbl.ins t k v

/-- List nothing for a number. -/
def Tbl.del {α : Type} (t : Tbl α) (k : Nat) : Tbl α := t.filter (fun p => p.1 != k)

/-- Store a value where unlisted numbers hold `d`: the value `d` is stored by listing nothing. -/
def Tbl.put {α : Type} [DecidableEq α] (d : α) (t : Tbl α) (k : Nat) (v : α) : Tbl α :=
  if v = d then Tbl.del t k else Tbl.ins t k v

/-- Change every listed value. -/
def Tbl.mapVal {α : Type} (t : Tbl α) (f : α → α) : Tbl α := t.map (fun p => (p.1, f p.2))

/-- The lowest of the `n` numbers from `k` up for which nothing is listed. -/
def Tbl.lowestFree {α : Type} (t : Tbl α) : Nat → Nat → Option Nat
  | 0, _ => none
  | n + 1, k => if (Tbl.find t k).isNone then some k else Tbl.lowestFree t n (k + 1)

/-- The canonical form: the numbers strictly rise. -/
abbrev Tbl.wf {α : Type} (t : Tbl α) : Prop := t.Pairwise (fun p q => p.1 < q.1)

/-- The canonical form of a table whose unlisted numbers hold `d`: the numbers strictly rise, and `d` is never listed. -/
abbrev Tbl.canonical {α : Type} (d : α) (t : Tbl α) : Prop := Tbl.wf t ∧ ∀ q ∈ t, q.2 ≠ d

end Sys2Proof.Machine
end

