-- ==== Sys2Proof/Machine/Ops.lean ====
section
/-! DEFINITION. Access to the state: one setter per block, and the readers and writers of the entries of each block's tables, with what
an entry holds that no table lists (its power-on value). -/

namespace Sys2Proof.Machine

def State.setLmu (s : State) (x : Lmu) : State := { s with lmu := x }
def State.setHli (s : State) (x : Hli) : State := { s with hli := x }
def State.setCau (s : State) (x : Cau) : State := { s with cau := x }
def State.setFre (s : State) (x : Fre) : State := { s with fre := x }
def State.setMgc (s : State) (x : Mgc) : State := { s with mgc := x }
def State.setCpm (s : State) (x : Cpm) : State := { s with cpm := x }
def State.setAcg (s : State) (x : Acg) : State := { s with acg := x }
def State.setDvq (s : State) (x : Dvq) : State := { s with dvq := x }
def State.setSpc (s : State) (x : Spc) : State := { s with spc := x }
def State.setMsb (s : State) (x : Msb) : State := { s with msb := x }
def State.setFnu (s : State) (x : Fnu) : State := { s with fnu := x }
def State.setMgu (s : State) (x : Mgu) : State := { s with mgu := x }
def State.setPending (s : State) (x : List Instr) : State := { s with pending := x }
def State.setResetn (s : State) (x : Bool) : State := { s with resetn := x }
def State.setFreeCount (s : State) (x : Nat) : State := { s with freeCount := x }

/-- A status record leaves on a host port. -/
def State.sendHost (s : State) (p : HostPort) (r : StatusRecord) : State := { s with hostOut := s.hostOut ++ [(p, r)] }

/-- A record leaves on a shelf port. -/
def State.sendShelf (s : State) (p : Nat) (r : ShelfRecord) : State := { s with shelfOut := s.shelfOut ++ [(p, r)] }

/-- A management response is formed. -/
def State.sendResponse (s : State) (r : Response) : State := { s with responses := s.responses ++ [r] }

/-- The empty record (R6). -/
def emptyRec : ExtRec := { group := 0, band := 0, state := .zero, slot := none, gen := 0, tag := 0 }

/-- The stored record at an index. -/
def State.recAt (s : State) (i : Nat) : ExtRec := Tbl.getD s.lmu.extents i emptyRec

/-- A loaded volume. -/
def State.volume (s : State) (v : Nat) : Option Volume := Tbl.find s.lmu.volumes v

def State.setVolume (s : State) (v : Nat) (x : Volume) : State :=
  s.setLmu { s.lmu with volumes := Tbl.ins s.lmu.volumes v x }

/-- The capacity of a volume in blocks (R1). -/
def Volume.capacity (v : Volume) : Nat := v.count * extentBlocks

/-- A descriptor that is not EMPTY. -/
def State.group (s : State) (g : Nat) : Option Group := Tbl.find s.lmu.groups g

def State.setGroup (s : State) (g : Nat) (x : Group) : State :=
  s.setLmu { s.lmu with groups := Tbl.ins s.lmu.groups g x }

/-- The number of a band of a group in the occupancy map. -/
def bandKey (l : Loc) : Nat := l.group * 65536 + l.band

/-- The holder of a band; none is FREE (R19). -/
def State.holder (s : State) (l : Loc) : Option Holder := Tbl.find s.lmu.bands (bandKey l)

/-- Hold a band (R20). -/
def State.hold (s : State) (l : Loc) (h : Holder) : State :=
  s.setLmu { s.lmu with bands := Tbl.ins s.lmu.bands (bandKey l) h }

/-- Release a band, if this holder has it (R20). -/
def State.release (s : State) (l : Loc) (h : Holder) : State :=
  if s.holder l = some h then s.setLmu { s.lmu with bands := Tbl.del s.lmu.bands (bandKey l) } else s

/-- The admission queue of a host port. -/
def State.queue (s : State) : HostPort → List CommandRecord
  | .hp0 => s.hli.queue0
  | .hp1 => s.hli.queue1

def State.setQueue (s : State) (p : HostPort) (q : List CommandRecord) : State :=
  match p with
  | .hp0 => s.setHli { s.hli with queue0 := q }
  | .hp1 => s.setHli { s.hli with queue1 := q }

/-- The Command Table entry of a number. -/
def State.command (s : State) (e : Nat) : Option Command := Tbl.find s.fre.commands e

def State.setCommand (s : State) (e : Nat) (c : Command) : State :=
  s.setFre { s.fre with commands := Tbl.ins s.fre.commands e c }

/-- Free a Command Table entry (R42). -/
def State.dropCommand (s : State) (e : Nat) : State := s.setFre { s.fre with commands := Tbl.del s.fre.commands e }

/-- The drawn fragment of a number. -/
def State.frag (s : State) (n : Nat) : Option Fragment := Tbl.find s.fre.frags n

/-- The use count of a fragment (R45). -/
def State.fragUse (s : State) (n : Nat) : Byte := Tbl.getD s.fre.useCounts n 0

/-- Free fragments of the pool (R45). -/
def State.freeFrags (s : State) : Nat := 4096 - s.fre.frags.length

/-- The slot record of a FREE slot that was never claimed (R79). -/
def Slot.initial : Slot := { claim := none, pause := false, writeCounts := [], readCount := 0, flushSeq := 0, reason := .none }

def State.slot (s : State) (i : Nat) : Slot := Tbl.getD s.mgc.slots i Slot.initial

def State.setSlot (s : State) (i : Nat) (x : Slot) : State := s.setMgc { s.mgc with slots := Tbl.ins s.mgc.slots i x }

/-- Replace the claim of a slot. -/
def State.setClaim (s : State) (i : Nat) (c : Claim) : State := s.setSlot i { s.slot i with claim := some c }

/-- A lane after power-on reset (R88). -/
def Lane.initial : Lane :=
  { state := .free, slot := none, op := none, chunk := none, source := none, target := none, seq := 0, frags := [], failure := none,
    cancel := false, buffer := [] }

def State.lane (s : State) (l : Nat) : Lane := Tbl.getD s.cpm.lanes l Lane.initial

def State.setLane (s : State) (l : Nat) (x : Lane) : State := s.setCpm { s.cpm with lanes := Tbl.ins s.cpm.lanes l x }

/-- A shelf port after power-on reset (R146). -/
def Port.initial : Port :=
  { state := .off, cause := none, output := false, settle := none, link := none, switch := false, follow := false, latch := false,
    faultInput := false }

def State.port (s : State) (p : Nat) : Port := Tbl.getD s.spc.ports p Port.initial

def State.setPort (s : State) (p : Nat) (x : Port) : State := s.setSpc { s.spc with ports := Tbl.ins s.spc.ports p x }

/-- A Shelf Drive Table entry after power-on reset (R146). -/
def Drive.initial : Drive := { present := false, capacity := 0, changes := 0 }

/-- The number of a drive in the Shelf Drive Table. -/
def driveKey (p d : Nat) : Nat := p * 256 + d

def State.drive (s : State) (p d : Nat) : Drive := Tbl.getD s.spc.drives (driveKey p d) Drive.initial

def State.setDrive (s : State) (p d : Nat) (x : Drive) : State :=
  s.setSpc { s.spc with drives := Tbl.put Drive.initial s.spc.drives (driveKey p d) x }

/-- A drive reads PRESENT (R138). -/
def State.drivePresent (s : State) (p d : Nat) : Bool := decide ((s.port p).state = .online) && (s.drive p d).present

/-- The shelf ports that are ONLINE, rising. -/
def State.onlinePorts (s : State) : List Nat := (List.range 8).filter (fun p => decide ((s.port p).state = .online))

/-- Advance a counter that stays at its top (R95). -/
def countUp (t : Tbl Nat) (p : Nat) : Tbl Nat := Tbl.ins t p (min (Tbl.getD t p 0 + 1) 4294967295)

/-- The governor counts a host fragment sent on a port (R95). -/
def State.countHost (s : State) (p : Nat) : State := s.setAcg { s.acg with hostCounts := countUp s.acg.hostCounts p }

/-- The governor counts a lane or target flush fragment sent on a port (R95). -/
def State.countCopy (s : State) (p : Nat) : State := s.setAcg { s.acg with copyCounts := countUp s.acg.copyCounts p }

/-- A status record with no optional field. -/
def plainStatus (tag : BitVec 16) (st : HostStatus) : StatusRecord :=
  { tag := tag, status := st, reason := none, failingPort := none, failingBlock := none, capacity := none, data := [] }

/-- Answer the command of a Command Table entry, on its port and with its tag, and free the entry (R42). -/
def State.answerWith (s : State) (e : Nat) (r : StatusRecord) : State :=
  match s.command e with
  | some c => (s.sendHost c.port { r with tag := c.record.tag }).dropCommand e
  | none => s

/-- Answer a command with a status that carries no optional field. -/
def State.answer (s : State) (e : Nat) (st : HostStatus) : State := s.answerWith e (plainStatus 0 st)

/-- Commands join the tail of the re-entry list in state WAITING (R41). -/
def State.rejoin (s : State) (es : List Nat) (point : EntryPoint) : State :=
  match es with
  | [] => s
  | e :: rest =>
    let s1 := match s.command e with
      | some c => s.setCommand e { c with state := .waiting }
      | none => s
    State.rejoin (s1.setFre { s1.fre with reentry := s1.fre.reentry ++ [(e, point)] }) rest point

/-- An event that the part takes only outside RESETn (R177): while the input is asserted it is discarded. -/
def State.event (s : State) (f : State → State) : Host.Outcome State Fault Refusal := .next (if s.resetn then s else f s)

end Sys2Proof.Machine
end

