-- ==== Sys2Proof/Machine/Layout.lean ====
section
/-! DEFINITION. Bytes and byte order (R179), the section check (R147), and the layout arithmetic of a group (R13, R22). -/

namespace Sys2Proof.Machine

/-- The `n` bytes of a number, least significant first (R179). -/
def leBytes : Nat → Nat → List Byte
  | 0, _ => []
  | n + 1, x => BitVec.ofNat 8 x :: leBytes n (x / 256)

/-- The number that bytes spell, least significant first (R179). -/
def ofLe : List Byte → Nat
  | [] => 0
  | b :: bs => b.toNat + 256 * ofLe bs

/-- The code of a record state (R179). -/
def extCode : ExtState → Nat
  | .zero => 0
  | .plain => 1
  | .moving => 2
  | .zeroing => 3

/-- The extent record layout, with its fenced marker (R179). -/
def extBytes (r : ExtRec) (fenced : Bool) : List Byte :=
  [r.group, BitVec.ofNat 8 (extCode r.state)] ++ leBytes 2 r.band.toNat
    ++ [match r.slot with | some i => BitVec.ofNat 8 i.val | none => 255, if fenced then 1 else 0]
    ++ leBytes 2 r.gen.toNat ++ leBytes 2 r.tag.toNat ++ [0, 0]

/-- One bit of the CRC of R147: the generator's lower coefficients are 04C11DB7. -/
def crcBit (r : BitVec 32) (b : Bool) : BitVec 32 :=
  if (r.msb != b) then (r <<< 1) ^^^ 0x04C11DB7#32 else r <<< 1

/-- One byte of the CRC, least significant bit first (R147). -/
def crcByte (r : BitVec 32) (x : Byte) : BitVec 32 := [0, 1, 2, 3, 4, 5, 6, 7].foldl (fun r i => crcBit r (x.getLsbD i)) r

/-- The register with bit 31 as bit 0 and so on down (R147). -/
def reflect32 (r : BitVec 32) : BitVec 32 :=
  (List.range 32).foldl (fun acc i => if r.getLsbD i then acc ||| BitVec.twoPow 32 (31 - i) else acc) 0#32

/-- The CRC-32 of R147. -/
def crc32 (bytes : List Byte) : BitVec 32 := ~~~ reflect32 (bytes.foldl crcByte 0xFFFFFFFF#32)

/-- The section of a record index (R147). -/
def sectionOf (i : Nat) : Nat := i / sectionRecords

/-- The check value of section `k` over the records of a map (R147). -/
def sectionCheck (m : Tbl ExtRec) (k : Nat) : BitVec 32 :=
  crc32 ((List.range sectionRecords).flatMap (fun j => extBytes (Tbl.getD m (sectionRecords * k + j) emptyRec) false))

/-- A section after power-on reset: UNFENCED, its check over empty records (R155). -/
def Section.initial (k : Nat) : Section := { fenced := false, check := sectionCheck [] k, reload := [], fence := none }

def State.sect (s : State) (k : Nat) : Section :=
  match Tbl.find s.msb.sections k with
  | some x => x
  | none => Section.initial k

def State.setSect (s : State) (k : Nat) (x : Section) : State := s.setMsb { s.msb with sections := Tbl.ins s.msb.sections k x }

/-- The record of an index lies in a FENCED section. -/
def State.fencedAt (s : State) (i : Nat) : Bool :=
  match Tbl.find s.msb.sections (sectionOf i) with
  | some x => x.fenced
  | none => false

/-- The blocks of a stripe unit (R13). -/
def StripeUnit.blocks : StripeUnit → Nat
  | .u16 => 16
  | .u32 => 32
  | .u64 => 64
  | .u128 => 128
  | .u256 => 256

/-- The stripe unit of a number of blocks, if it is one of the five (R14). -/
def StripeUnit.ofNat? : Nat → Option StripeUnit
  | 16 => some .u16
  | 32 => some .u32
  | 64 => some .u64
  | 128 => some .u128
  | 256 => some .u256
  | _ => none

/-- The stripe unit of a place in R13's list. -/
def StripeUnit.ofFin : Fin 5 → StripeUnit
  | 0 => .u16
  | 1 => .u32
  | 2 => .u64
  | 3 => .u128
  | 4 => .u256

/-- W, the member count (R13). -/
def Layout.width (l : Layout) : Nat := l.members.length

/-- N, the units of an extent (R13). -/
def Layout.unitsPerExtent (l : Layout) : Nat := extentBlocks / l.unit.blocks

/-- R, the rows of an extent (R13). -/
def Layout.rows (l : Layout) : Nat := (l.unitsPerExtent + l.width - 1) / l.width

/-- S, the band span (R13). -/
def Layout.span (l : Layout) : Nat := l.rows * l.unit.blocks

/-- The layout used for a group: its own, or a free one for a group never loaded, which only a damaged record names (log 7). -/
def State.layout (s : State) (g : Nat) : Layout :=
  match s.group g with
  | some gr => gr.layout
  | none =>
    { unit := StripeUnit.ofFin (Config.strayUnit g), bands := 0,
      members := (Config.strayMembers g).map (fun m => { port := m.1, drive := m.2.1, base := m.2.2 }) }

/-- What a translation hands back (R22). -/
structure Place where
  member : Nat
  port : Nat
  drive : Nat
  dbn : Nat
  left : Nat
  chunk : Nat
  deriving DecidableEq, Repr

/-- The translation of an offset within an extent at band `b` of a layout, steps 2 to 5 of R22. -/
def translate (l : Layout) (b o : Nat) : Place :=
  let u := o / l.unit.blocks
  let w := o % l.unit.blocks
  let k := u % l.width
  let r := u / l.width
  let m := (k + b) % l.width
  let mem := l.members.getD m default
  { member := m, port := mem.port, drive := mem.drive, dbn := mem.base + b * l.span + r * l.unit.blocks + w,
    left := l.unit.blocks - w, chunk := o / chunkBlocks }

/-- The distinct shelf ports of a group's members, rising. -/
def Layout.ports (l : Layout) : List Nat := (List.range 8).filter (fun p => l.members.any (fun m => m.port == p))

/-- The member range of a group on a member: where it ends (R13). -/
def Layout.memberEnd (l : Layout) (m : Member) : Nat := m.base + l.bands * l.span

end Sys2Proof.Machine
end

