-- ==== Sys2Proof/Machine/Flags.lean ====
section
/-! DEFINITION. The Fault and Notice Unit: conditions, notices, masks, summaries, ALERT (chapter 9). -/

namespace Sys2Proof.Machine

/-- The conditions (R156). -/
inductive Cond where
  | powerFault (port : Fin 8)
  | linkLoss (port : Fin 8)
  | linkTimeout (port : Fin 8)
  | fragmentTimeout (port : Fin 8)
  | mapCheck (sect : Fin 64)
  | zeroWriteFault (lane : Fin 4)
  | linkReset (port : HostPort)
  deriving DecidableEq, Repr

/-- The place of a condition among the 102, in the order of R156's table. -/
def Cond.idx : Cond → Nat
  | .powerFault p => p.val
  | .linkLoss p => 8 + p.val
  | .linkTimeout p => 16 + p.val
  | .fragmentTimeout p => 24 + p.val
  | .mapCheck k => 32 + k.val
  | .zeroWriteFault l => 96 + l.val
  | .linkReset p => 100 + p.toNat

/-- The place of a condition that a request names by its code and instance (R159, R179). -/
def condOf (cond inst : Nat) : Option Nat :=
  match cond with
  | 0 => if inst < 8 then some inst else none
  | 1 => if inst < 8 then some (8 + inst) else none
  | 2 => if inst < 8 then some (16 + inst) else none
  | 3 => if inst < 8 then some (24 + inst) else none
  | 4 => if inst < 64 then some (32 + inst) else none
  | 5 => if inst < 4 then some (96 + inst) else none
  | 6 => if inst < 2 then some (100 + inst) else none
  | _ => none

/-- The notices (R162). -/
inductive Notice where
  | moveDone
  | moveAbandoned
  | zeroDone
  | slotShortage
  | holdOverflow
  | diversionPending
  | diversionTimeout
  | shelfChange
  | driveChange
  | mapFault
  deriving DecidableEq, Repr

/-- The bit of a notice in the notice set (R179). -/
def Notice.bit : Notice → Nat
  | .moveDone => 0
  | .moveAbandoned => 1
  | .zeroDone => 2
  | .slotShortage => 3
  | .holdOverflow => 4
  | .diversionPending => 5
  | .diversionTimeout => 6
  | .shelfChange => 7
  | .driveChange => 8
  | .mapFault => 9

/-- A flag set to a value. -/
def setFlag {n : Nat} (x : BitVec n) (i : Nat) (v : Bool) : BitVec n :=
  if v then x ||| BitVec.twoPow n i else x &&& ~~~ BitVec.twoPow n i

/-- Raise a notice (R162). -/
def State.raise (s : State) (n : Notice) : State := s.setFnu { s.fnu with notices := setFlag s.fnu.notices n.bit true }

/-- A notice is pending (R162). -/
def State.pendingNotice (s : State) (n : Notice) : Bool := s.fnu.notices.getLsbD n.bit

/-- Set a condition that has no count behind it (R156). -/
def State.setCond (s : State) (c : Cond) : State := s.setFnu { s.fnu with conds := setFlag s.fnu.conds c.idx true }

/-- Set a shelf port condition, by the port's number. -/
def State.setPortCond (s : State) (c : Fin 8 → Cond) (p : Nat) : State := if h : p < 8 then s.setCond (c ⟨p, h⟩) else s

/-- The link-reset count of a host port (R157). -/
def State.linkResets (s : State) : HostPort → Nat
  | .hp0 => s.fnu.resets0
  | .hp1 => s.fnu.resets1

def State.setLinkResets (s : State) (p : HostPort) (n : Nat) : State :=
  match p with
  | .hp0 => s.setFnu { s.fnu with resets0 := n }
  | .hp1 => s.setFnu { s.fnu with resets1 := n }

/-- A condition is set (R156); LINK-RESET is set exactly while its count is above 0 (R157). -/
def State.condAt (s : State) (i : Nat) : Bool :=
  if i = 100 then decide (0 < s.fnu.resets0) else if i = 101 then decide (0 < s.fnu.resets1) else s.fnu.conds.getLsbD i

/-- The cause of a condition stands (R156). -/
def State.stands (s : State) (i : Nat) : Bool :=
  if i < 8 then (s.port i).faultInput
  else if i < 16 then decide ((s.port (i - 8)).state = .faulted ∧ (s.port (i - 8)).cause = some .linkLoss)
  else if i < 24 then decide ((s.port (i - 16)).state = .faulted ∧ (s.port (i - 16)).cause = some .linkTimeout)
  else if i < 32 then false
  else if i < 96 then (s.sect (i - 32)).fenced
  else false

/-- The conditions of a summary: SHELF, MAP, COPY, LINK (R156). -/
def summaryRange : Nat → List Nat
  | 0 => List.range 32
  | 1 => (List.range 64).map (· + 32)
  | 2 => (List.range 4).map (· + 96)
  | 3 => [100, 101]
  | _ => []

/-- A condition is unmasked: set, with its first-level mask clear (R158). -/
def State.unmasked (s : State) (i : Nat) : Bool := s.condAt i && !s.fnu.mask1.getLsbD i

/-- A summary flag (R158). -/
def State.summary (s : State) (g : Nat) : Bool := (summaryRange g).any s.unmasked

/-- ALERT (R165). -/
def State.alert (s : State) : Bool :=
  (List.range 4).any (fun g => s.summary g && !s.fnu.mask2.getLsbD g)
    || (List.range 10).any (fun n => s.fnu.notices.getLsbD n && !s.fnu.noticeMask.getLsbD n)

/-- Clear one condition and set it again if its cause stands (R159). -/
def State.clearCond (s : State) (i : Nat) : State :=
  if i = 100 then s.setLinkResets .hp0 0
  else if i = 101 then s.setLinkResets .hp1 0
  else s.setFnu { s.fnu with conds := setFlag s.fnu.conds i (s.stands i) }

end Sys2Proof.Machine
end

