-- ==== Sys2Proof/Machine/Lmu.lean ====
section
/-! DEFINITION. The writes of the Layout Map Unit and the section checks they recompute (R8, R148), and the fence (R150). -/

namespace Sys2Proof.Machine

/-- A record's stored contents become these, whoever changed them; the check is left alone. -/
def State.storeRec (s : State) (i : Nat) (r : ExtRec) : State :=
  s.setLmu { s.lmu with extents := Tbl.put emptyRec s.lmu.extents i r }

/-- Recompute the stored check of a section (R148). -/
def State.recheck (s : State) (k : Nat) : State := s.setSect k { s.sect k with check := sectionCheck s.lmu.extents k }

/-- One record write asked of the LMU: discarded in a FENCED section, else applied with its section's check recomputed (R8, R148). -/
def State.writeRec (s : State) (i : Nat) (r : ExtRec) : State :=
  if s.fencedAt i then s else (s.storeRec i r).recheck (sectionOf i)

/-- Store records at consecutive indices. -/
def State.storeRun (s : State) (i : Nat) : List ExtRec → State
  | [] => s
  | r :: rs => (s.storeRec i r).storeRun (i + 1) rs

/-- Recompute the checks of those of the listed sections that are UNFENCED (R148). -/
def State.recheckAll (s : State) : List Nat → State
  | [] => s
  | k :: ks => (if (s.sect k).fenced then s else s.recheck k).recheckAll ks

/-- The sections that hold the `n` records from index `i`, rising. -/
def sectionsOf (i n : Nat) : List Nat := (List.range 64).filter (fun k => sectionOf i ≤ k ∧ k ≤ sectionOf (i + n - 1))

/-- Writes of a run of records that are applied whatever their sections' states (GROW VOLUME, LOAD EXTENTS: R8, R10). -/
def State.writeRun (s : State) (i : Nat) (rs : List ExtRec) : State :=
  (s.storeRun i rs).recheckAll (sectionsOf i rs.length)

/-- An index lies in the records in use of some loaded volume (R6). -/
def State.inUse (s : State) (i : Nat) : Bool :=
  s.lmu.volumes.any (fun v => decide (v.2.mapBase ≤ i ∧ i < v.2.mapBase + v.2.count))

/-- Drop the kind 1 holds of the `n` record indices from `i` (R10). -/
def State.dropRecordHolds (s : State) (i n : Nat) : State :=
  s.setLmu { s.lmu with
    bands := s.lmu.bands.filter (fun b => match b.2 with | .record j => !(decide (i ≤ j ∧ j < i + n)) | _ => true) }

/-- Take kind 1 holds on locations for consecutive record indices (R20). -/
def State.holdRun (s : State) (i : Nat) : List Loc → State
  | [] => s
  | l :: ls => (s.hold l (.record i)).holdRun (i + 1) ls

/-- Set the size-notice pending flag of a volume in every entry holding READ or READ-WRITE on it (R33). -/
def State.flagGrowth (s : State) (v : Nat) : State :=
  s.setCau { s.cau with initiators := Tbl.mapVal s.cau.initiators (fun e =>
    if e.rights.getD v .none = .none then e else { e with sizePending := setFlag e.sizePending v true }) }

/-- The fence of a section (R150); the report goes to each slot that is not FREE and whose record lies in it. -/
def State.fence (s : State) (k : Nat) (cause : FenceCause) (computed compared : BitVec 32) : State :=
  let s1 := s.setSect k { s.sect k with fenced := true, reload := [], fence := some ⟨cause, computed, compared⟩ }
  let s2 := if h : k < 64 then s1.setCond (.mapCheck ⟨k, h⟩) else s1
  let s3 := s2.raise .mapFault
  let told := (List.range 4).filter (fun i =>
    match (s3.slot i).claim with
    | some c => decide (sectionOf c.index = k)
    | none => false)
  s3.setMgc { s3.mgc with fenceReports := s3.mgc.fenceReports.filter (fun i => !told.contains i) ++ told }

/-- A section leaves FENCED if every record in use of it is in its reload set (R152). -/
def State.tryUnfence (s : State) (k : Nat) : State :=
  let idx := (List.range sectionRecords).map (fun j => sectionRecords * k + j)
  let sec := s.sect k
  if sec.fenced && idx.all (fun i => !s.inUse i || sec.reload.contains i) then
    let s1 := (idx.filter (fun i => !s.inUse i)).foldl (fun t i => t.storeRec i emptyRec) s
    s1.setSect k { s1.sect k with fenced := false, reload := [], check := sectionCheck s1.lmu.extents k }
  else s

/-- The `n` record indices from `i` that lie in FENCED sections join those sections' reload sets; then each such section that the
request wrote is looked at for leaving FENCED (R152). -/
def State.reload (s : State) (i n : Nat) : List Nat → State
  | [] => s
  | k :: ks =>
    let s1 :=
      if (s.sect k).fenced then
        let sec := s.sect k
        let new := ((List.range n).map (i + ·)).filter (fun j => decide (sectionOf j = k) && !sec.reload.contains j)
        (s.setSect k { sec with reload := sec.reload ++ new }).tryUnfence k
      else s
    s1.reload i n ks

end Sys2Proof.Machine
end

