-- ==== Sys2Proof/Machine/Mgc.lean ====
section
/-! DEFINITION. The Migration Controller: counts and reports, passes, cutover, target flush, flip, retire, abandon (chapter 3), and the
first-touch zeroing slots (chapter 5). -/

namespace Sys2Proof.Machine

/-- The state of a chunk of a claimed slot: DIRTY where none is listed (R53). -/
def Claim.chunk (c : Claim) (k : Nat) : ChunkState := Tbl.getD c.chunks k .dirty

def Claim.setChunk (c : Claim) (k : Nat) (x : ChunkState) : Claim := { c with chunks := Tbl.put .dirty c.chunks k x }

/-- Some chunk is COPYING or STALE (R53). -/
def Claim.busy (c : Claim) : Bool := (List.range 256).any (fun k => c.chunk k = .copying ∨ c.chunk k = .stale)

/-- The dirty count: chunks whose state is not CLEAN (R51, R53). -/
def Claim.dirtyCount (c : Claim) : Nat := (List.range 256).countP (fun k => decide (c.chunk k ≠ .clean))

/-- The write count of a chunk (R51). -/
def Slot.writes (sl : Slot) (k : Nat) : Nat := Tbl.getD sl.writeCounts k 0

/-- The total write count (R51). -/
def Slot.totalWrites (sl : Slot) : Nat := ((List.range 256).map sl.writes).sum

/-- The lowest chunk from `lo` up that is DIRTY with write count 0 (R61, R66). -/
def Slot.idle (sl : Slot) (c : Claim) (lo : Nat) : Option Nat :=
  (List.range 256).find? (fun k => decide (lo ≤ k ∧ c.chunk k = .dirty ∧ sl.writes k = 0))

/-- The chunks of an extent that a range of volume blocks touches, rising (R108). -/
def touchedChunks (extent start len : Nat) : List Nat :=
  let lo := max start (extent * extentBlocks)
  let hi := min (start + len) ((extent + 1) * extentBlocks)
  if lo < hi then
    let a := (lo - extent * extentBlocks) / chunkBlocks
    let b := (hi - 1 - extent * extentBlocks) / chunkBlocks
    (List.range (b + 1 - a)).map (a + ·)
  else []

/-- The waiting chunks of a held WRITE on the extent of a slot (R108). -/
def State.waitingChunks (s : State) (c : Claim) (e : Nat) : List Nat :=
  match s.command e with
  | some cmd => touchedChunks c.extent cmd.record.start.toNat cmd.record.length.toNat
  | none => []

/-- The chunk a ZERO slot would zero: the lowest DIRTY waiting chunk of a held WRITE, else the lowest DIRTY one (R110). -/
def State.zeroChunk (s : State) (c : Claim) : Option Nat :=
  let waiting := c.hold.flatMap (s.waitingChunks c)
  match (List.range 256).find? (fun k => decide (c.chunk k = .dirty) && waiting.contains k) with
  | some k => some k
  | none => (List.range 256).find? (fun k => decide (c.chunk k = .dirty))

/-- The chunk a slot would have copied or zeroed if it took a grant now (R61, R66, R110). -/
def State.candidate (s : State) (i : Nat) : Option Nat :=
  let sl := s.slot i
  match sl.claim with
  | none => none
  | some c =>
    if c.drain ≠ [] ∨ c.busy then none
    else match c.state, c.move with
      | .copying, some m => sl.idle c m.sweep
      | .cutover, some _ => sl.idle c 0
      | .zeroing, _ => s.zeroChunk c
      | _, _ => none

/-- A slot goes FREE: the fields not marked "kept" become absent and the pause flag is cleared (R52); reports it had not taken find
nothing to act on (log 10). -/
def State.freeSlot (s : State) (i : Nat) : State :=
  let s1 := s.setSlot i { s.slot i with claim := none, pause := false }
  s1.setMgc { s1.mgc with
    exitReports := s1.mgc.exitReports.filter (fun r => r.1 != i),
    fenceReports := s1.mgc.fenceReports.filter (fun r => r != i) }

/-- Every held command of a slot is released to the re-entry list, oldest first (R67). -/
def State.releaseHeld (s : State) (i : Nat) : State :=
  match (s.slot i).claim with
  | some c => (s.setClaim i { c with hold := [] }).rejoin c.hold .check6
  | none => s

/-- The lanes, by number, that serve a slot: in GRANTED, READING or WRITING (R89). -/
def State.servingLanes (s : State) (i : Nat) : List Nat :=
  (List.range 4).filter (fun l =>
    let ln := s.lane l
    decide (ln.slot = some i ∧ (ln.state = .granted ∨ ln.state = .reading ∨ ln.state = .writing)))

/-- The slot is in the in-service set (R89). -/
def State.inService (s : State) (i : Nat) : Bool := s.servingLanes i ≠ []

/-- The cancel mark of the lanes serving a slot is set (R87). -/
def State.cancelLanes (s : State) (i : Nat) : State :=
  (s.servingLanes i).foldl (fun t l => t.setLane l { t.lane l with cancel := true }) s

/-- The record that a slot writes when its extent goes back to a location (R7, R8): the fields not named are kept. -/
def backTo (r : ExtRec) (l : Loc) (st : ExtState) : ExtRec :=
  { r with group := BitVec.ofNat 8 l.group, band := BitVec.ofNat 16 l.band, state := st, slot := none }

/-- The first event of an abandon (R74), with its reason (R73); a slot not in COPYING or CUTOVER takes no cause. -/
def State.abandon (s : State) (i : Nat) (why : Reason) : State :=
  match (s.slot i).claim with
  | some c =>
    match c.move with
    | some m =>
      if c.state = .copying ∨ c.state = .cutover then
        let s1 := s.setSlot i { s.slot i with
          reason := why,
          claim := some { c with state := .abandoning, move := some { m with timer := none, flushOut := 0 } } }
        let s2 := s1.releaseHeld i
        (s2.writeRec c.index (backTo (s2.recAt c.index) c.source .plain)).cancelLanes i
      else s
    | none => s
  | none => s

/-- The abandon completes (R74): the target is released, the slot goes FREE, MOVE-ABANDONED is raised. -/
def State.abandonDone (s : State) (i : Nat) (m : Move) : State :=
  ((s.release m.target (.target i)).freeSlot i).raise .moveAbandoned

/-- The retire completes (R72): the old location is released, the slot goes FREE, MOVE-DONE is raised. -/
def State.retireDone (s : State) (i : Nat) (c : Claim) : State :=
  ((s.release c.source (.retiring i)).freeSlot i).raise .moveDone

/-- The flip (R71): refused for a FENCED section, else record, holds, held commands and state change together. The source becomes the
retiring slot's hold whatever stood there, which for a record damaged before its claim need not be its own (log 8). -/
def State.flip (s : State) (i : Nat) : State :=
  match (s.slot i).claim with
  | some c =>
    match c.move with
    | some m =>
      if s.fencedAt c.index then s.abandon i .mapFault
      else
        let r := s.recAt c.index
        let s1 := s.writeRec c.index { backTo r m.target .plain with gen := r.gen + 1 }
        let s2 := (s1.hold m.target (.record c.index)).hold c.source (.retiring i)
        (s2.setClaim i { c with state := .retiring, move := some { m with flushOut := 0, timer := none } }).releaseHeld i
    | none => s
  | none => s

/-- A completion of a target flush fragment reaches its slot (R70). -/
def State.flushDone (s : State) (i : Nat) (seq : Byte) (o : FragOutcome) : State :=
  let sl := s.slot i
  match sl.claim with
  | some c =>
    match c.move with
    | some m =>
      if c.state = .cutover ∧ 0 < m.flushOut ∧ seq = sl.flushSeq then
        if o = .ok then
          let s1 := s.setClaim i { c with move := some { m with flushOut := m.flushOut - 1 } }
          if m.flushOut = 1 then s1.flip i else s1
        else s.abandon i .targetError
      else s
    | none => s
  | none => s

/-- A target flush fragment leaves on a shelf port (R68, R95, R143). -/
def State.sendFlush (s : State) (i : Nat) (seq : Byte) (p : Nat) : State :=
  let s1 := s.setMgc { s.mgc with
    flushFrags := s.mgc.flushFrags ++ [{ slot := i, seq := seq, port := p, timer := s.fre.timeout * 1000 }] }
  (s1.countCopy p).sendShelf p (.fragment (.slotFlush (Fin.ofNat 4 i) seq) .flush none 0 0 [])

/-- The target flush is issued (R68): a fragment to a port that is not ONLINE completes at once NOT-PRESENT. -/
def State.issueFlush (s : State) (i : Nat) (c : Claim) (m : Move) : State :=
  let sl := s.slot i
  let seq := sl.flushSeq + 1
  let ports := (s.layout m.target.group).ports
  let s1 := s.setSlot i { sl with
    flushSeq := seq, claim := some { c with move := some { m with timer := none, flushOut := ports.length } } }
  let up := ports.filter (fun p => decide ((s.port p).state = .online))
  let s2 := up.foldl (fun t p => t.sendFlush i seq p) s1
  if up.length < ports.length then s2.flushDone i seq .notPresent else s2

/-- The slot enters CUTOVER and its timer starts (R66). -/
def State.enterCutover (s : State) (i : Nat) (c : Claim) (m : Move) : State :=
  s.setClaim i { c with state := .cutover, move := some { m with timer := some s.mgc.cutoverTimeout } }

/-- The passes of a slot in COPYING that end now, each followed by CUTOVER or the next pass (R64); the pass limit is at most 15. While
commands stand on the re-entry list, a free value says whether the pass waits for them (R69, 3.10; log 9). -/
def State.endPasses (s : State) (i : Nat) : Nat → State
  | 0 => s
  | n + 1 =>
    let sl := s.slot i
    match sl.claim with
    | some c =>
      match c.move with
      | some m =>
        if c.state = .copying ∧ c.drain = [] ∧ c.busy = false ∧ sl.idle c m.sweep = none then
          let contended := !s.fre.reentry.isEmpty
          let s1 := if contended then s.setFreeCount (s.freeCount + 1) else s
          if contended && Config.passWaits s.freeCount then s1
          else if c.dirtyCount ≤ s.mgc.threshold then s1.enterCutover i c m
          else if s.mgc.passLimit ≤ m.pass then s1.enterCutover i c m
          else (s1.setClaim i { c with move := some { m with pass := m.pass + 1, sweep := 0 } }).endPasses i n
        else s
      | none => s
    | none => s

/-- A slot in CUTOVER whose chunks are all CLEAN and whose total write count is 0 issues its target flush (R68). -/
def State.tryFlush (s : State) (i : Nat) : State :=
  let sl := s.slot i
  match sl.claim with
  | some c =>
    match c.move with
    | some m =>
      if c.state = .cutover ∧ m.flushOut = 0 ∧ c.dirtyCount = 0 ∧ sl.totalWrites = 0 then s.issueFlush i c m else s
    | none => s
  | none => s

/-- A slot whose work has ended goes FREE: a retire with no source read left (R72), an abandon or an ENDING slot with no lane serving
it (R74, R115). -/
def State.tryFinish (s : State) (i : Nat) : State :=
  let sl := s.slot i
  match sl.claim with
  | some c =>
    match c.state, c.move with
    | .retiring, _ => if sl.readCount = 0 then s.retireDone i c else s
    | .abandoning, some m => if s.inService i then s else s.abandonDone i m
    | .ending, _ => if s.inService i then s else s.freeSlot i
    | _, _ => s
  | none => s

/-- What a slot does at the end of an event that may have changed what it waits for: passes end, the flush is issued, the slot goes
FREE, all within the event (R64, R68, R72, R74; log 9). -/
def State.settleSlot (s : State) (i : Nat) : State := (((s.endPasses i 16).tryFlush i).tryFinish i)

/-- Every slot settles, in number order. -/
def State.settle (s : State) : State := (((s.settleSlot 0).settleSlot 1).settleSlot 2).settleSlot 3

/-- A creation report (R54). -/
def State.created (s : State) (k : Mark) : State :=
  let sl := s.slot k.slot
  if k.write then
    let sl1 := { sl with writeCounts := Tbl.put 0 sl.writeCounts k.chunk (sl.writes k.chunk + 1) }
    match sl.claim with
    | some c =>
      if (c.state = .copying ∨ c.state = .cutover) ∧ c.index = k.index then
        let next := match c.chunk k.chunk with
          | .dirty => ChunkState.dirty
          | .copying => .stale
          | .stale => .stale
          | .clean => .dirty
        s.setSlot k.slot { sl1 with claim := some (c.setChunk k.chunk next) }
      else s.setSlot k.slot sl1
    | none => s.setSlot k.slot sl1
  else s.setSlot k.slot { sl with readCount := sl.readCount + 1 }

/-- A completion report (R55). -/
def State.completed (s : State) (k : Mark) : State :=
  let sl := s.slot k.slot
  if k.write then s.setSlot k.slot { sl with writeCounts := Tbl.put 0 sl.writeCounts k.chunk (sl.writes k.chunk - 1) }
  else s.setSlot k.slot { sl with readCount := sl.readCount - 1 }

/-- A fragment that completes leaves the pre-move drain of each slot that counts it (R57). -/
def State.drained (s : State) (n : Nat) : State :=
  (List.range 4).foldl (fun t i =>
    match (t.slot i).claim with
    | some c => if c.drain.contains n then t.setClaim i { c with drain := c.drain.erase n } else t
    | none => t) s

/-- The lowest-numbered FREE slot (R52). -/
def State.freeSlotNo (s : State) : Option Nat := (List.range 4).find? (fun i => (s.slot i).claim.isNone)

/-- The numbers of the fragments then drawn from the pool (R57). -/
def State.drawnNow (s : State) : List Nat := s.fre.frags.map (fun f => f.1)

/-- A ZERO slot is claimed for an extent (R106). -/
def State.claimZero (s : State) (i v x idx : Nat) : State :=
  let r := s.recAt idx
  let c : Claim :=
    { state := .zeroing, volume := v, extent := x, index := idx, source := ⟨r.group.toNat, r.band.toNat⟩, chunks := [],
      drain := s.drawnNow, hold := [], move := none }
  (s.setSlot i { s.slot i with claim := some c, pause := false }).writeRec idx
    { r with state := .zeroing, slot := some (Fin.ofNat 4 i) }

/-- A MOVE slot is claimed (R59). -/
def State.claimMove (s : State) (i v x idx : Nat) (target : Loc) : State :=
  let r := s.recAt idx
  let c : Claim :=
    { state := .copying, volume := v, extent := x, index := idx, source := ⟨r.group.toNat, r.band.toNat⟩, chunks := [],
      drain := s.drawnNow, hold := [],
      move := some { target := target, pass := 1, sweep := 0, attempts := 0, flushOut := 0, timer := none } }
  ((s.setSlot i { s.slot i with claim := some c }).writeRec idx
    { r with state := .moving, slot := some (Fin.ofNat 4 i) }).hold target (.target i)

/-- A restart (R60). -/
def State.restart (s : State) (i : Nat) : State :=
  match (s.slot i).claim with
  | some c =>
    match c.move with
    | some m =>
      let chunks := (c.chunks.filter (fun k => decide (k.2 = .copying ∨ k.2 = .stale))).map (fun k => (k.1, ChunkState.stale))
      s.setClaim i { c with chunks := chunks, move := some { m with pass := 1, sweep := 0, attempts := 0 } }
    | none => s
  | none => s

/-- Expiry of a cutover timer (R69). -/
def State.cutoverExpired (s : State) (i : Nat) : State :=
  match (s.slot i).claim with
  | some c =>
    match c.move with
    | some m =>
      if c.state = .cutover ∧ m.timer.isSome then
        let n := m.attempts + 1
        let s1 := (s.setClaim i { c with move := some { m with attempts := n, timer := none } }).releaseHeld i
        if n < 3 then
          match (s1.slot i).claim with
          | some c1 =>
            s1.setClaim i { c1 with
              state := .copying, move := some { m with attempts := n, timer := none, pass := 1, sweep := 0 } }
          | none => s1
        else s1.abandon i .cutoverTimeout
      else s
    | none => s
  | none => s

/-- A slot takes the fence of its record's section (R150): a MOVE slot is abandoned, a ZERO slot is ended (R115). -/
def State.takeFence (s : State) (i : Nat) : State :=
  match (s.slot i).claim with
  | some c =>
    if c.state = .zeroing then
      let s1 := s.setSlot i { s.slot i with reason := .mapFault, claim := some { c with state := .ending } }
      let s2 := s1.releaseHeld i
      (s2.writeRec c.index { s2.recAt c.index with state := .zero, slot := none }).cancelLanes i
    else s.abandon i .mapFault
  | none => s

/-- A group has a member on a shelf port, PRESENT or not (R73, R97). -/
def State.onPort (s : State) (g p : Nat) : Bool := (s.layout g).members.any (fun m => m.port == p)

/-- A slot takes the report of a port's exit (R141). -/
def State.takeExit (s : State) (i p : Nat) : State :=
  match (s.slot i).claim with
  | some c =>
    match c.move with
    | some m => if s.onPort c.source.group p || s.onPort m.target.group p then s.abandon i .shelfLost else s
    | none => s
  | none => s

/-- The slot hears how its copy or zero-fill of a chunk ended (R63, R107, R111, R112). -/
inductive CopyOutcome where
  | ok
  | sourceError
  | targetError
  deriving DecidableEq, Repr

/-- A held WRITE is released when all its waiting chunks are CLEAN; the others keep their order (R109). -/
def State.releaseClean (s : State) (i : Nat) : State :=
  match (s.slot i).claim with
  | some c =>
    let done := fun e => (s.waitingChunks c e).all (fun k => decide (c.chunk k = .clean))
    (s.setClaim i { c with hold := c.hold.filter (fun e => !done e) }).rejoin (c.hold.filter done) .check6
  | none => s

/-- The zeroing completes when no chunk is left (R112). -/
def State.zeroingDone (s : State) (i : Nat) : State :=
  match (s.slot i).claim with
  | some c =>
    if c.dirtyCount = 0 then
      ((s.writeRec c.index { s.recAt c.index with state := .plain, slot := none }).freeSlot i).raise .zeroDone
    else s
  | none => s

/-- A slot takes the completion of its chunk copy or zero-fill (R63, R111). -/
def State.copyDone (s : State) (i k : Nat) (o : CopyOutcome) : State :=
  let sl := s.slot i
  match sl.claim with
  | some c =>
    match c.state, o with
    | .zeroing, .ok => ((s.setClaim i (c.setChunk k .clean)).releaseClean i).zeroingDone i
    | .zeroing, _ => s.setSlot i { sl with pause := true, claim := some (c.setChunk k .dirty) }
    | .copying, .sourceError => s.abandon i .sourceError
    | .cutover, .sourceError => s.abandon i .sourceError
    | .copying, .targetError => s.abandon i .targetError
    | .cutover, .targetError => s.abandon i .targetError
    | .copying, .ok => s.setClaim i (c.setChunk k (if c.chunk k = .copying then .clean else .dirty))
    | .cutover, .ok => s.setClaim i (c.setChunk k (if c.chunk k = .copying then .clean else .dirty))
    | _, _ => s
  | none => s

end Sys2Proof.Machine
end

