-- ==== Sys2Proof/Machine/Fre.lean ====
section
/-! DEFINITION. The Fragment Engine: pieces, the need, drawing, issue and completion of host fragments, the merged status
(chapter 2.6 to 2.8). -/

namespace Sys2Proof.Machine

/-- A piece of a command's range (R43): its first VBN, its blocks, the record index and the offset within the extent. -/
structure Piece where
  vbn : Nat
  count : Nat
  index : Nat
  off : Nat
  deriving DecidableEq, Repr

/-- The pieces of the `left` blocks from `v` of a volume with map base `base`: cut at every unit boundary (R43). -/
def State.cut (s : State) (base : Nat) : Nat → Nat → Nat → List Piece
  | 0, _, _ => []
  | fuel + 1, v, left =>
    if left = 0 then []
    else
      let idx := base + v / extentBlocks
      let o := v % extentBlocks
      let n := min left (translate (s.layout (s.recAt idx).group.toNat) (s.recAt idx).band.toNat o).left
      { vbn := v, count := n, index := idx, off := o } :: State.cut s base fuel (v + n) (left - n)

/-- The extents a range touches, rising (R38). -/
def touchedExtents (start len : Nat) : List Nat :=
  if len = 0 then [] else
    let a := start / extentBlocks
    let b := (start + len - 1) / extentBlocks
    if a = b then [a] else [a, b]

/-- The command addresses a range of blocks. -/
def hasRange (k : Kind) : Bool := k = .read ∨ k = .write ∨ k = .discard

/-- Some touched record of a range lies in a FENCED section. -/
def State.touchesFence (s : State) (base : Nat) (r : CommandRecord) : Bool :=
  (touchedExtents r.start.toNat r.length.toNat).any (fun x => s.fencedAt (base + x))

/-- The need of a command (R28). -/
def State.need (s : State) (r : CommandRecord) : Nat :=
  if hasRange r.kind then
    match s.volume r.volume.toNat with
    | some v =>
      let len := r.length.toNat
      if 1 ≤ len ∧ len ≤ 1024 ∧ r.start.toNat + len ≤ v.capacity ∧ s.touchesFence v.mapBase r = false then
        (s.cut v.mapBase len r.start.toNat len).length
      else 0
    | none => 0
  else if r.kind = .flush then s.onlinePorts.length
  else 0

/-- The chunk state read for a ZEROING record: the slot's table, or a free value where no claimed slot is named (log 8). -/
def State.chunkAt (s : State) (r : ExtRec) (idx k : Nat) : ChunkState :=
  match r.slot with
  | some i =>
    match (s.slot i.val).claim with
    | some c => c.chunk k
    | none => match Config.strayChunk idx k with | 0 => .dirty | 1 => .copying | 2 => .stale | 3 => .clean
  | none => match Config.strayChunk idx k with | 0 => .dirty | 1 => .copying | 2 => .stale | 3 => .clean

/-- A fragment about to be drawn. -/
structure Draw where
  kind : FragKind
  port : Nat
  addr : Option FragAddr
  mark : Option Mark
  deriving DecidableEq, Repr

/-- What becomes of a piece, by the state of its record (R23, R43, R47). -/
def State.drawOf (s : State) (kind : FragKind) (p : Piece) : Option Draw :=
  let r := s.recAt p.index
  let pl := translate (s.layout r.group.toNat) r.band.toNat p.off
  let addr : FragAddr := { vbn := p.vbn, drive := pl.drive, dbn := pl.dbn, count := p.count }
  match r.state with
  | .plain => some { kind := kind, port := pl.port, addr := some addr, mark := none }
  | .moving =>
    some { kind := kind, port := pl.port, addr := some addr,
           mark := r.slot.map (fun i => { slot := i.val, index := p.index, chunk := pl.chunk, write := decide (kind ≠ .read) }) }
  | .zero => none
  | .zeroing =>
    if s.chunkAt r p.index pl.chunk = .clean then some { kind := kind, port := pl.port, addr := some addr, mark := none }
    else none

/-- The fragment kind of a command kind. -/
def fragKindOf : Kind → FragKind
  | .read => .read
  | .write => .write
  | .discard => .discard
  | _ => .flush

/-- The fragments a command draws at check 9 (R43, R44). -/
def State.draws (s : State) (r : CommandRecord) : List Draw :=
  if hasRange r.kind then
    match s.volume r.volume.toNat with
    | some v => (s.cut v.mapBase r.length.toNat r.start.toNat r.length.toNat).filterMap (s.drawOf (fragKindOf r.kind))
    | none => []
  else s.onlinePorts.map (fun p => { kind := .flush, port := p, addr := none, mark := none })

/-- One fragment is drawn: the lowest-numbered free one, its use count advanced, its creation report sent (R45, R47). -/
def State.drawOne (s : State) (e : Nat) (d : Draw) : State × Option Nat :=
  match Tbl.lowestFree s.fre.frags 4096 0 with
  | none => (s, none)
  | some n =>
    let f : Fragment := { owner := some e, kind := d.kind, port := d.port, addr := d.addr, mark := d.mark, timer := s.fre.timeout * 1000 }
    let s1 := s.setFre { s.fre with
      frags := Tbl.ins s.fre.frags n f, useCounts := Tbl.put 0 s.fre.useCounts n (s.fragUse n + 1) }
    (match d.mark with | some k => s1.created k | none => s1, some n)

/-- The fragments of a command are drawn in order (R45). -/
def State.drawAll (s : State) (e : Nat) : List Draw → State × List Nat
  | [] => (s, [])
  | d :: ds =>
    let r := s.drawOne e d
    let rest := State.drawAll r.1 e ds
    (rest.1, r.2.toList ++ rest.2)

/-- READ data placed at its blocks: what an OK completion did not bring is a free value, and what it brings beyond its count is dropped
(R46, R143; log 7). -/
def placeBlocks (t : Tbl Block) (base : Nat) : Nat → List Block → Nat → Tbl Block
  | 0, _, _ => t
  | n + 1, b :: bs, f => placeBlocks (Tbl.ins t base b) (base + 1) n bs f
  | n + 1, [], f => placeBlocks (Tbl.ins t base (Config.missingBlock f)) (base + 1) n [] (f + 1)

/-- The data a READ answered GOOD returns: zeros for the pieces that drew no fragment (R48). -/
def readData (r : CommandRecord) (g : Tbl Block) : List Block :=
  (List.range r.length.toNat).map (fun j => Tbl.getD g (r.start.toNat + j) 0)

/-- The status a command earns when its last fragment has completed (R48). -/
def finalStatus (r : CommandRecord) (i : Issue) : StatusRecord :=
  if i.abort then plainStatus r.tag .aborted
  else match i.failure with
    | none => { plainStatus r.tag .good with data := if r.kind = .read then readData r i.gathered else [] }
    | some f =>
      if r.kind = .flush then { plainStatus r.tag .deviceError with reason := some f.2, failingPort := some f.1 }
      else { plainStatus r.tag .deviceError with reason := some f.2, failingBlock := some f.1 }

/-- The failure record keeps the lowest first VBN, or for a FLUSH the lowest port (R48). -/
def worseOf (old : Option (Nat × FragOutcome)) (key : Nat) (o : FragOutcome) : Option (Nat × FragOutcome) :=
  match old with
  | none => some (key, o)
  | some f => if key < f.1 then some (key, o) else some f

/-- A completion taken for a fragment that a command owns (R48). -/
def State.ownerTakes (s : State) (e : Nat) (f : Fragment) (o : FragOutcome) (data : List Block) : State :=
  match s.command e with
  | some c =>
    match c.state with
    | .issued i =>
      let key := match f.addr with | some a => a.vbn | none => f.port
      let got := o = .ok ∧ f.kind = .read
      let count := match f.addr with | some a => a.count | none => 0
      let i1 : Issue := { i with
        outstanding := i.outstanding - 1,
        failure := if o = .ok then i.failure else worseOf i.failure key o,
        gathered := if got then placeBlocks i.gathered key count data s.freeCount else i.gathered }
      let s1 := if got then s.setFreeCount (s.freeCount + (count - data.length)) else s
      let s2 := s1.setCommand e { c with state := .issued i1 }
      if i1.outstanding = 0 then s2.answerWith e (finalStatus c.record i1) else s2
    | _ => s
  | none => s

/-- A host fragment completes (R46): it returns to the pool, leaves the drains that count it, its completion report goes to the MGC, and
its owner takes the outcome. -/
def State.completeFrag (s : State) (n : Nat) (o : FragOutcome) (data : List Block) : State :=
  match s.frag n with
  | some f =>
    let s1 := (s.setFre { s.fre with frags := Tbl.del s.fre.frags n }).drained n
    let s2 := match f.mark with | some k => s1.completed k | none => s1
    match f.owner with
    | some e => s2.ownerTakes e f o data
    | none => s2
  | none => s

/-- The blocks of a command's outgoing data that a WRITE fragment carries. -/
def State.writeData (s : State) (f : Fragment) : List Block :=
  match f.kind, f.addr, f.owner with
  | .write, some a, some e =>
    match s.command e with
    | some c => (c.record.data.drop (a.vbn - c.record.start.toNat)).take a.count
    | none => []
  | _, _, _ => []

/-- A drawn fragment is handed to the SPC (R46): sent, its timer started and counted by the governor, or completed at once NOT-PRESENT
if its drive is ABSENT. -/
def State.issueFrag (s : State) (n : Nat) : State :=
  match s.frag n with
  | some f =>
    let ready := match f.addr with | some a => s.drivePresent f.port a.drive | none => true
    if ready then
      let rec1 := match f.addr with
        | some a => ShelfRecord.fragment (.pool (Fin.ofNat 4096 n) (s.fragUse n)) f.kind (some a.drive) a.dbn a.count (s.writeData f)
        | none => ShelfRecord.fragment (.pool (Fin.ofNat 4096 n) (s.fragUse n)) f.kind none 0 0 []
      (s.countHost f.port).sendShelf f.port rec1
    else s.completeFrag n .notPresent []
  | none => s

/-- Check 9 for a READ, WRITE, DISCARD or FLUSH: its fragments are drawn and issued in order, or it is answered GOOD at once if it
draws none (R43 to R46). -/
def State.fragment (s : State) (e : Nat) (c : Command) : State :=
  let d := s.drawAll e (s.draws c.record)
  if d.2 = [] then
    d.1.answerWith e { plainStatus 0 .good with data := if c.record.kind = .read then readData c.record [] else [] }
  else
    d.2.foldl State.issueFrag
      (d.1.setCommand e { c with state := .issued { outstanding := d.2.length, failure := none, gathered := [], abort := false } })

end Sys2Proof.Machine
end

