-- ==== Sys2Proof/Machine/Admission.lean ====
section
/-! DEFINITION. The admission queues' gate and the nine admission checks (chapter 2.2 to 2.5), with the diversion of check 7
(chapter 6). -/

namespace Sys2Proof.Machine

/-- The Initiator Table entry, by number, of an initiator (R30). -/
def State.initiatorOf (s : State) (id : BitVec 32) (p : HostPort) : Option (Nat × Initiator) :=
  s.cau.initiators.find? (fun e => decide (e.2.id = id ∧ e.2.port = p))

/-- Some entry in use holds MANAGE (R36). -/
def State.managed (s : State) : Bool := s.cau.initiators.any (fun e => e.2.manage)

/-- The tag is in flight for the same initiator (R35). -/
def State.tagInFlight (s : State) (p : HostPort) (r : CommandRecord) : Bool :=
  s.fre.commands.any (fun c => decide (c.2.port = p ∧ c.2.record.initiator = r.initiator ∧ c.2.record.tag = r.tag))

/-- Check 1 passes (R35). -/
def State.check1 (s : State) (p : HostPort) (r : CommandRecord) : Bool :=
  let len := r.length.toNat
  let formed := match r.kind with
    | .read => decide (1 ≤ len ∧ len ≤ 1024 ∧ r.data = [])
    | .discard => decide (1 ≤ len ∧ len ≤ 1024 ∧ r.data = [])
    | .write => decide (1 ≤ len ∧ len ≤ 1024 ∧ r.data.length = len)
    | .flush => decide (len = 0 ∧ r.data = [])
    | .size => decide (len = 0 ∧ r.data = [])
    | .format => decide (len = 0 ∧ r.data = [])
    | .control => decide (1 ≤ len ∧ len ≤ 1024 ∧ r.data.length = len ∧ r.volume = 255)
    | .unknown _ => false
  formed && !s.tagInFlight p r

/-- Check 2 passes (R36). -/
def State.check2 (s : State) (r : CommandRecord) : Bool :=
  if r.kind = .control then true
  else if 16 ≤ r.volume.toNat then false
  else match s.volume r.volume.toNat with
    | some v => decide (v.state = .online)
    | none => false

/-- A right is enough for a kind (R30, R36). -/
def rightAdmits (k : Kind) (h : Right) : Bool :=
  match k, h with
  | _, .none => false
  | .write, .read => false
  | .discard, .read => false
  | .format, .read => false
  | _, _ => true

/-- Check 3 passes, with the bootstrap case (R36). -/
def State.check3 (s : State) (p : HostPort) (r : CommandRecord) : Bool :=
  if r.kind = .control ∧ p = .hp0 ∧ s.managed = false then true
  else match s.initiatorOf r.initiator p with
    | some e => if r.kind = .control then e.2.manage else rightAdmits r.kind (e.2.rights.getD r.volume.toNat .none)
    | none => false

/-- The size-notice pending flag of an initiator for a volume (R33). -/
def State.sizePending (s : State) (p : HostPort) (r : CommandRecord) : Bool :=
  match s.initiatorOf r.initiator p with
  | some e => e.2.sizePending.getLsbD r.volume.toNat
  | none => false

/-- That flag is cleared (R37, R44). -/
def State.clearPending (s : State) (p : HostPort) (r : CommandRecord) : State :=
  match s.initiatorOf r.initiator p with
  | some e =>
    s.setCau { s.cau with
      initiators := Tbl.ins s.cau.initiators e.1 { e.2 with sizePending := setFlag e.2.sizePending r.volume.toNat false } }
  | none => s

/-- A command is diverted into the lowest free entry (R121), or answered BUSY-RETRY if the Diversion Queue is full. -/
def State.divert (s : State) (e : Nat) (c : Command) : State :=
  match Tbl.lowestFree s.dvq.entries 16 0 with
  | none => s.answer e .busyRetry
  | some n =>
    let d : Diversion := { entry := e, time := s.dvq.timeCount, timer := s.dvq.timeout * 1000 }
    let s1 := s.setDvq { s.dvq with
      entries := Tbl.ins s.dvq.entries n d,
      useCounts := Tbl.put 0 s.dvq.useCounts n (Tbl.getD s.dvq.useCounts n 0 + 1),
      order := s.dvq.order ++ [n] }
    let s2 := s1.setCommand e { c with state := .diverted }
    if s.dvq.entries = [] then s2.raise .diversionPending else s2

/-- A Diversion Queue entry is freed: it leaves the order and keeps its use count (R120). -/
def State.freeDiversion (s : State) (n : Nat) : State :=
  s.setDvq { s.dvq with entries := Tbl.del s.dvq.entries n, order := s.dvq.order.filter (fun m => m != n) }

/-- A command is parked at the tail of a slot's hold list, or answered BUSY-RETRY with HOLD-OVERFLOW if the list is full (R40, R67). A
slot that is not claimed has no list: the command stays PARKED (log 8). -/
def State.park (s : State) (e : Nat) (c : Command) (slot : Option Nat) : State :=
  match slot with
  | some i =>
    match (s.slot i).claim with
    | some cl =>
      if 32 ≤ cl.hold.length then (s.answer e .busyRetry).raise .holdOverflow
      else (s.setClaim i { cl with hold := cl.hold ++ [e] }).setCommand e { c with state := .parked }
    | none => s.setCommand e { c with state := .parked }
  | none => s.setCommand e { c with state := .parked }

/-- Where check 8 leaves a command: stopped (parked or answered), or going on. -/
inductive HoldResult where
  | stopped (s : State)
  | goOn (s : State)

/-- Check 8 at one touched extent whose record is ZEROING (R40, R108): the chunks are those the command touches. Only a WRITE is parked:
the table of R7 has discards parked too, and the model follows R40, R43 and R108 (DESIGN CHOICE, log 27). -/
def State.holdZeroing (s : State) (e : Nat) (c : Command) (x idx : Nat) : HoldResult :=
  let r := s.recAt idx
  let dirty := (touchedChunks x c.record.start.toNat c.record.length.toNat).any (fun k => decide (s.chunkAt r idx k ≠ .clean))
  if dirty && decide (c.record.kind = .write) then .stopped (s.park e c (r.slot.map (fun i => i.val))) else .goOn s

/-- Check 8 at one touched extent (R40, R106). -/
def State.holdExtent (s : State) (e : Nat) (c : Command) (v x idx : Nat) : HoldResult :=
  let r := s.recAt idx
  match r.state with
  | .plain => .goOn s
  | .moving =>
    match r.slot with
    | some i =>
      match (s.slot i.val).claim with
      | some cl => if cl.state = .cutover then .stopped (s.park e c (some i.val)) else .goOn s
      | none => .goOn s
    | none => .goOn s
  | .zero =>
    match s.freeSlotNo with
    | none => .stopped ((s.answer e .busyRetry).raise .slotShortage)
    | some i => (s.claimZero i v x idx).holdZeroing e c x idx
  | .zeroing => s.holdZeroing e c x idx

/-- Check 8 over the touched extents, in ascending order (R40). -/
def State.holdExtents (s : State) (e : Nat) (c : Command) (v base : Nat) : List Nat → HoldResult
  | [] => .goOn s
  | x :: xs =>
    match s.holdExtent e c v x (base + x) with
    | .stopped t => .stopped t
    | .goOn t => t.holdExtents e c v base xs

/-- The requests that count among the eight: those in the queue, and one still executing without its CONTROL (R168). -/
def Mgu.load (m : Mgu) : Nat := m.queue.length + (if m.orphan.isSome then 1 else 0)

/-- Check 9 (R43, R44). -/
def State.check9 (s : State) (e : Nat) (c : Command) : State :=
  match c.record.kind with
  | .size =>
    (s.clearPending c.port c.record).answerWith e
      { plainStatus 0 .good with capacity := some (match s.volume c.record.volume.toNat with | some v => v.capacity | none => 0) }
  | .control =>
    if 8 ≤ s.mgu.load then s.answer e .busyRetry
    else (s.setCommand e { c with state := .managing }).setMgu { s.mgu with queue := s.mgu.queue ++ [e] }
  | _ => s.fragment e c

/-- Checks 8 and 9 (R40, R43). -/
def State.check8 (s : State) (e : Nat) (c : Command) : State :=
  if c.record.kind = .write ∨ c.record.kind = .discard then
    let v := c.record.volume.toNat
    let base := match s.volume v with | some vol => vol.mapBase | none => 0
    match s.holdExtents e c v base (touchedExtents c.record.start.toNat c.record.length.toNat) with
    | .stopped t => t
    | .goOn t => t.check9 e c
  else s.check9 e c

/-- A touched record of a command lies in a FENCED section (R38, R40). -/
def State.fencedFor (s : State) (r : CommandRecord) : Bool :=
  hasRange r.kind && (match s.volume r.volume.toNat with | some v => s.touchesFence v.mapBase r | none => false)

/-- Check 7 diverts the command (R39, R119). -/
def State.diverts (s : State) (r : CommandRecord) : Bool :=
  match r.kind, s.volume r.volume.toNat with
  | .format, _ => true
  | .discard, some v => v.divertDiscard
  | .flush, some v => v.divertFlush
  | _, _ => false

/-- Checks 4 to 9 of a command to a data volume (R37 to R44). -/
def State.checkData (s : State) (e : Nat) (c : Command) : State :=
  let r := c.record
  let cap := match s.volume r.volume.toNat with | some v => v.capacity | none => 0
  if s.sizePending c.port r && decide (r.kind ≠ .size) then (s.clearPending c.port r).answer e .sizeChanged
  else if hasRange r.kind ∧ cap < r.start.toNat + r.length.toNat then s.answer e .outOfRange
  else if s.fencedFor r then s.answer e .mapFault
  else if s.diverts r then s.divert e c
  else s.check8 e c

/-- The checks of a command just taken, whose entry is `e` (R35 to R44). -/
def State.runChecks (s : State) (e : Nat) (p : HostPort) (r : CommandRecord) : State :=
  let ok1 := s.check1 p r
  let c : Command := { record := r, port := p, state := .waiting }
  let s1 := s.setCommand e c
  if !ok1 then s1.answer e .invalidRequest
  else if !s1.check2 r then s1.answer e .notReady
  else if !s1.check3 p r then s1.answer e .accessDenied
  else if r.kind = .control then s1.check9 e c
  else s1.checkData e c

/-- The head of a port's queue meets both conditions of R28. -/
def State.headReady (s : State) (p : HostPort) : Bool :=
  match s.queue p with
  | [] => false
  | r :: _ => (Tbl.lowestFree s.fre.commands 512 0).isSome && decide (s.need r ≤ s.freeFrags)

/-- A port's head can be taken now: the re-entry list is empty, the gate is met, and it is this port's turn if both heads can be taken
(R28). -/
def State.headTurn (s : State) (p : HostPort) : Bool :=
  decide (s.fre.reentry = []) && s.headReady p && !(decide (s.hli.servedLast = p) && s.headReady p.other)

/-- The CAU takes the head of a port's queue (R28). -/
def State.takeHead (s : State) (p : HostPort) : State :=
  match s.queue p with
  | [] => s
  | r :: rest =>
    match s.headTurn p, Tbl.lowestFree s.fre.commands 512 0 with
    | true, some e =>
      let s1 := s.setQueue p rest
      ((s1.setHli { s1.hli with servedLast := p }).runChecks e p r).settle
    | _, _ => s

/-- The oldest command on the re-entry list is served, if the pool covers its need (R41). From check 6 the fence check, and from check 8
its head (R40), look at the touched sections first: the two entry points come to the same. -/
def State.serve (s : State) : State :=
  match s.fre.reentry with
  | [] => s
  | (e, _) :: rest =>
    match s.command e with
    | none => s.setFre { s.fre with reentry := rest }
    | some c =>
      if s.need c.record ≤ s.freeFrags then
        let s1 := s.setFre { s.fre with reentry := rest }
        (if s1.fencedFor c.record then s1.answer e .mapFault else s1.check8 e c).settle
      else s

end Sys2Proof.Machine
end

