-- ==== Sys2Proof/Machine/Cpm.lean ====
section
/-! DEFINITION. The Copy Mover and its Lane Arbiter (chapter 4): copies and zero-fills by lane fragments, requests, eligibility, grants. -/

namespace Sys2Proof.Machine

/-- A lane goes FREE: its recorded fields become absent, its copy sequence is kept (R85). -/
def State.freeLane (s : State) (l : Nat) : State := s.setLane l { Lane.initial with seq := (s.lane l).seq }

/-- The blocks a write piece carries: of the chunk buffer, or zeros for a zero-fill (R82, R84). -/
def Lane.pieceData (ln : Lane) (off count : Nat) : List Block :=
  (List.range count).map (fun j => match ln.op with | some .zeroFill => 0 | _ => Tbl.getD ln.buffer (off + j) 0)

/-- The piece number of a lane fragment as its handle carries it (R83). -/
def laneHandle (l : Nat) (seq : Byte) (phase : Phase) (piece : Nat) : Handle := .lane (Fin.ofNat 4 l) seq phase (Fin.ofNat 64 piece)

/-- One lane fragment is issued: sent, timed and counted, or completed at once NOT-PRESENT (R83). -/
def State.issuePiece (s : State) (l : Nat) (phase : Phase) (piece unit : Nat) (pl : Place) : State :=
  let ln := s.lane l
  if s.drivePresent pl.port pl.drive then
    let f : LaneFrag := { seq := ln.seq, phase := phase, piece := piece, port := pl.port, drive := pl.drive, dbn := pl.dbn,
                          count := unit, timer := s.fre.timeout * 1000 }
    let s1 := s.setLane l { ln with frags := ln.frags ++ [f] }
    let data := match phase with | .reading => [] | .writing => ln.pieceData (piece * unit) unit
    let kind := match phase with | .reading => FragKind.read | .writing => .write
    (s1.countCopy pl.port).sendShelf pl.port (.fragment (laneHandle l ln.seq phase piece) kind (some pl.drive) pl.dbn unit data)
  else s.setLane l { ln with failure := some (ln.failure.getD .notPresent) }

/-- The lane fragments of a phase, one for each unit of the chunk, all at once in ascending offset (R82, R84). -/
def State.issuePhase (s : State) (l : Nat) (phase : Phase) (loc : Loc) (chunk : Nat) : State :=
  let lay := s.layout loc.group
  let u := lay.unit.blocks
  (List.range (chunkBlocks / u)).foldl
    (fun t j => t.issuePiece l phase j u (translate lay loc.band (chunk * chunkBlocks + j * u))) s

/-- A granted lane starts its copy or zero-fill (R82). -/
def State.startCopy (s : State) (l : Nat) (op : LaneOp) (chunk : Nat) (source : Option Loc) (target : Loc) : State :=
  let ln := s.lane l
  let ln1 : Lane := { ln with
    op := some op, chunk := some chunk, source := source, target := some target, seq := ln.seq + 1, frags := [],
    failure := none, cancel := false, buffer := [] }
  match source with
  | some src => (s.setLane l { ln1 with state := .reading }).issuePhase l .reading src chunk
  | none => (s.setLane l { ln1 with state := .writing }).issuePhase l .writing target chunk

/-- What a lane does when a completion brings its outstanding count to 0 (R84, R85, R88): a COPY that has read all goes on to write. -/
def State.laneDrained (s : State) (l : Nat) : State :=
  let ln := s.lane l
  if ln.frags ≠ [] then s
  else match ln.state with
    | .stopping => s.freeLane l
    | .reading =>
      if ln.failure.isSome ∨ ln.cancel then s.setLane l { ln with buffer := [] }
      else match ln.target, ln.chunk with
        | some t, some c => (s.setLane l { ln with state := .writing }).issuePhase l .writing t c
        | _, _ => s
    | _ => s

/-- A lane fragment completes (R83, R84). -/
def State.completeLaneFrag (s : State) (l : Nat) (f : LaneFrag) (o : FragOutcome) (data : List Block) : State :=
  let ln := s.lane l
  let placed := o = .ok ∧ f.phase = .reading ∧ ln.state = .reading
  let ln1 : Lane := { ln with
    frags := ln.frags.erase f,
    failure := if o = .ok then ln.failure else some (ln.failure.getD o),
    buffer := if placed then placeBlocks ln.buffer (f.piece * f.count) f.count data s.freeCount else ln.buffer }
  let s1 := if placed then s.setFreeCount (s.freeCount + (f.count - data.length)) else s
  (s1.setLane l ln1).laneDrained l

/-- How a lane's copy ended, once its last fragment has completed; none while it has not (R84, R85). -/
def Lane.ended (ln : Lane) : Option CopyOutcome :=
  if ln.frags ≠ [] then none
  else match ln.state with
    | .reading => some (if ln.failure.isSome then .sourceError else .ok)
    | .writing => some (if ln.failure.isSome then .targetError else .ok)
    | _ => none

/-- The class of a request (R89). -/
inductive ReqClass where
  | normal
  | urgent
  deriving DecidableEq, Repr

/-- The copy request a slot presents, with its class (R61, R66, R89, R110). -/
def State.request (s : State) (i : Nat) : Option ReqClass :=
  match (s.slot i).claim with
  | none => none
  | some c =>
    if (s.candidate i).isNone then none
    else match c.state with
      | .copying => some .normal
      | .cutover => some .urgent
      | .zeroing => if c.hold = [] then some .normal else some .urgent
      | _ => none

/-- The deferral mask (R97): a MOVE slot in COPYING whose groups have a member on a busy port. -/
def State.deferred (s : State) (i : Nat) : Bool :=
  match (s.slot i).claim with
  | some c =>
    match c.move with
    | some m => decide (c.state = .copying) && s.acg.sample.busy.any (fun p => s.onPort c.source.group p || s.onPort m.target.group p)
    | none => false
  | none => false

/-- The stop hold (R89). -/
def State.stopHold (s : State) : Bool := (List.range 4).any (fun l => decide ((s.lane l).state = .stopping))

/-- Copies in flight: lanes in any state other than FREE (R81). -/
def State.copiesInFlight (s : State) : Nat := (List.range 4).countP (fun l => decide ((s.lane l).state ≠ .free))

/-- A slot is eligible (R90). -/
def State.eligible (s : State) (i : Nat) : Bool :=
  match s.request i with
  | none => false
  | some k => !s.inService i && !(s.slot i).pause && (decide (k = .urgent) || !s.deferred i)

/-- A lane can be granted (R90): the lowest-numbered FREE lane, if any. -/
def State.grantable (s : State) : Option Nat :=
  if s.copiesInFlight < s.cpm.laneCount ∧ s.stopHold = false then
    (List.range 4).find? (fun l => decide ((s.lane l).state = .free))
  else none

/-- The order in which the arbiter tries the slots (R91): one pointer serves both classes, so that urgent grants can move it past a slot of
the other class for longer than the three grants of R92 (DESIGN CHOICE, log 28). -/
def State.tryOrder (s : State) : List Nat :=
  match s.cpm.priority with
  | .fixed => [0, 1, 2, 3]
  | .rotating => (List.range 4).map (fun j => (s.cpm.rotation + 1 + j) % 4)

/-- The slot the arbiter chooses: urgent requests before normal ones, then the priority mode (R91). -/
def State.chosen (s : State) : Option Nat :=
  match s.tryOrder.find? (fun i => s.eligible i && decide (s.request i = some .urgent)) with
  | some i => some i
  | none => s.tryOrder.find? s.eligible

/-- One grant of the arbiter (R90). -/
def State.grant (s : State) : State :=
  match s.grantable, s.chosen with
  | some l, some i =>
    let s1 := s.setLane l { s.lane l with state := .granted, slot := some i }
    match s.cpm.priority with
    | .fixed => s1
    | .rotating => s1.setCpm { s1.cpm with rotation := i }
  | _, _ => s

/-- A slot takes its grant (R62, R82, R110): it starts the copy of its candidate, or hands the lane back. -/
def State.takeGrant (s : State) (i : Nat) : State :=
  match (List.range 4).find? (fun l => decide ((s.lane l).state = .granted ∧ (s.lane l).slot = some i)) with
  | none => s
  | some l =>
    match (s.slot i).claim, s.candidate i with
    | some c, some k =>
      let c1 := c.setChunk k .copying
      (match c.move with
        | some m =>
          let m1 : Move := if c.state = SlotState.copying then { m with sweep := k + 1 } else m
          (s.setClaim i { c1 with move := some m1 }).startCopy l .copy k (some c.source) m.target
        | none => (s.setClaim i c1).startCopy l .zeroFill k none c.source).settle
    | _, _ => (s.freeLane l).settle

/-- A finished copy hands its outcome to its slot (R63, R85, R111). -/
def State.takeCompletion (s : State) (l : Nat) : State :=
  let ln := s.lane l
  match ln.ended, ln.slot, ln.chunk with
  | some o, some i, some k =>
    let s1 := s.freeLane l
    let s2 := if ln.op = some .zeroFill ∧ o = .targetError then
        (if h : l < 4 then s1.setCond (.zeroWriteFault ⟨l, h⟩) else s1) else s1
    (s2.copyDone i k o).settle
  | _, _, _ => s

/-- RESET BRIDGE stops the lanes (R88). -/
def State.stopLane (s : State) (l : Nat) : State :=
  let ln := s.lane l
  match ln.state with
  | .granted => s.freeLane l
  | .reading => (s.setLane l { ln with state := .stopping, buffer := [] }).laneDrained l
  | .writing => (s.setLane l { ln with state := .stopping, buffer := [] }).laneDrained l
  | _ => s

end Sys2Proof.Machine
end

