-- ==== Sys2Proof/Machine/Spc.lean ====
section
/-! DEFINITION. The Shelf Port Controller (chapter 7): port states, power, current faults, discovery, leaving ONLINE, completions. -/

namespace Sys2Proof.Machine

/-- A port enters a state; SHELF-CHANGE is raised each time (R129). -/
def State.enter (s : State) (p : Nat) (x : Port) : State := (s.setPort p x).raise .shelfChange

/-- The numbers of the drawn fragments on a port that satisfy a test on their drive slot (none is a FLUSH). -/
def State.fragsOn (s : State) (p : Nat) (test : Option Nat → Bool) : List Nat :=
  (s.fre.frags.filter (fun f => decide (f.2.port = p) && test (f.2.addr.map (fun a => a.drive)))).map (fun f => f.1)

/-- Host fragments on a port complete NOT-PRESENT. -/
def State.failHost (s : State) (p : Nat) (test : Option Nat → Bool) : State :=
  (s.fragsOn p test).foldl (fun t n => t.completeFrag n .notPresent []) s

/-- Lane fragments on a port complete NOT-PRESENT. -/
def State.failLane (s : State) (p : Nat) (test : Option Nat → Bool) (l : Nat) : State :=
  ((s.lane l).frags.filter (fun f => decide (f.port = p) && test (some f.drive))).foldl
    (fun t f => t.completeLaneFrag l f .notPresent []) s

/-- A target flush fragment completes: it leaves the in-flight set and its slot judges the completion (R68, R70). -/
def State.completeFlush (s : State) (f : FlushFrag) (o : FragOutcome) : State :=
  (s.setMgc { s.mgc with flushFrags := s.mgc.flushFrags.erase f }).flushDone f.slot f.seq o

/-- The slot of a target flush fragment would take its completion: it is in CUTOVER, and the flush is the one outstanding (R70). -/
def State.awaits (s : State) (f : FlushFrag) : Bool :=
  let sl := s.slot f.slot
  match sl.claim with
  | some c =>
    match c.move with
    | some m => decide (c.state = .cutover ∧ 0 < m.flushOut ∧ f.seq = sl.flushSeq)
    | none => false
  | none => false

/-- A target flush fragment on a port that leaves ONLINE completes NOT-PRESENT. The slot takes that completion, or takes SHELF-LOST first
(its PORT_EXIT_REPORT, which it waits for in CUTOVER) and then discards this: R70 and R141 allow either, and a free value says which
(log 10). -/
def State.loseFlush (s : State) (f : FlushFrag) : State :=
  if s.awaits f then
    let s1 := s.setFreeCount (s.freeCount + 1)
    if Config.lossFirst s.freeCount then s1.setMgc { s1.mgc with flushFrags := s1.mgc.flushFrags.erase f }
    else s1.completeFlush f .notPresent
  else s.completeFlush f .notPresent

/-- Target flush fragments on a port complete NOT-PRESENT. -/
def State.failFlush (s : State) (p : Nat) : State :=
  (s.mgc.flushFrags.filter (fun f => decide (f.port = p))).foldl State.loseFlush s

/-- Every entry of a port becomes ABSENT with capacity 0; change counts are kept (R141). -/
def State.absentDrives (s : State) (p : Nat) : State :=
  (List.range 24).foldl (fun t d => t.setDrive p d { t.drive p d with present := false, capacity := 0 }) s

/-- The port's exit is reported to the slots that are not FREE (R141). -/
def State.tellExit (s : State) (p : Nat) : State :=
  s.setMgc { s.mgc with
    exitReports := s.mgc.exitReports.filter (fun r => r.2 != p)
      ++ ((List.range 4).filter (fun i => (s.slot i).claim.isSome)).map (fun i => (i, p)) }

/-- The effects of leaving ONLINE, besides the port's own new state (R141). -/
def State.leaveEffects (s : State) (p : Nat) : State :=
  let all := fun _ => true
  let s1 := (s.absentDrives p).failHost p all
  let s2 := (((s1.failLane p all 0).failLane p all 1).failLane p all 2).failLane p all 3
  (s2.failFlush p).tellExit p

/-- A port moves to a state; if it leaves ONLINE by this, the effects of R141 take place (R131, R141). -/
def State.move (s : State) (p : Nat) (x : Port) : State :=
  if (s.port p).state = .online then (s.enter p x).leaveEffects p else s.enter p x

/-- Entering POWERING: the settle timer starts at 1.5 s (R136). -/
def Port.powered (x : Port) : Port := { x with state := .powering, cause := none, output := true, settle := some 1500, link := none }

/-- Entering OFF because the demand is OFF: timers stopped, fault latch cleared (R131). -/
def Port.unpowered (x : Port) : Port :=
  { x with state := .off, cause := none, output := false, settle := none, link := none, latch := false }

/-- Entering FAULTED with POWER-FAULT: latch set, power off, timers stopped (R135). -/
def Port.tripped (x : Port) : Port :=
  { x with state := .faulted, cause := some .powerFault, output := false, settle := none, link := none, latch := true }

/-- The demand of a port under the current mode (R130). -/
def State.demand (s : State) (p : Nat) : Bool :=
  match s.spc.mode with
  | .unswitched => true
  | .global => s.spc.globalSwitch
  | .individual => if (s.port p).follow then s.spc.globalSwitch else (s.port p).switch

/-- A port obeys the global switch (R133). -/
def State.obeys (s : State) (p : Nat) : Bool :=
  match s.spc.mode with
  | .unswitched => false
  | .global => true
  | .individual => (s.port p).follow

/-- A current fault taken with the power output on (R135). -/
def State.trip (s : State) (p : Nat) : State :=
  match s.spc.mode with
  | .unswitched => s.setPortCond .powerFault p
  | _ => ((s.setPortCond .powerFault p).move p (s.port p).tripped)

/-- The power output of a port is worked out again, with its transition (R130, R131, R135): a port whose demand is OFF ends in OFF with
its latch clear; one that turns on enters POWERING, and trips in the same event if its input is asserted in a switched mode. -/
def State.repower (s : State) (p : Nat) : State :=
  let x := s.port p
  if s.demand p then
    if x.latch = false ∧ x.output = false then
      let s1 := s.move p x.powered
      if x.faultInput ∧ s.spc.mode ≠ .unswitched then s1.trip p else s1
    else s
  else if x.state = .off then
    if x.output ∨ x.latch then s.setPort p { x with output := false, latch := false } else s
  else s.move p x.unpowered

/-- Every port's power is worked out again (R130), in rising order of the ports, which is the order of the statuses where several leave
ONLINE (DESIGN CHOICE, log 11). -/
def State.repowerAll (s : State) : State := (List.range 8).foldl (fun t p => t.repower p) s

/-- The fault latch of a port is cleared (R132 to R134). -/
def State.clearLatch (s : State) (p : Nat) : State := s.setPort p { s.port p with latch := false }

/-- A slot-change report's entry is well formed (R179). -/
def entryOk (e : SlotEntry) : Bool := decide (e.presence.toNat ≤ 1)

/-- A report's entry written over a Shelf Drive Table entry; the capacity is not examined when ABSENT (R138, R179). -/
def driveOf (e : SlotEntry) (changes : Byte) : Drive :=
  if e.presence = 1 then { present := true, capacity := e.capacity.toNat, changes := changes }
  else { present := false, capacity := 0, changes := changes }

/-- One slot-change report taken in ONLINE (R139). -/
def State.slotChange (s : State) (p d : Nat) (e : SlotEntry) : State :=
  let s1 := (s.setDrive p d (driveOf e ((s.drive p d).changes + 1))).raise .driveChange
  if e.presence = 1 then s1
  else
    let at' := fun o => decide (o = some d)
    let s2 := s1.failHost p at'
    (((s2.failLane p at' 0).failLane p at' 1).failLane p at' 2).failLane p at' 3

/-- Slot-change reports for consecutive drive slots (R139). -/
def State.slotChanges (s : State) (p d : Nat) : List SlotEntry → State
  | [] => s
  | e :: es => (s.slotChange p d e).slotChanges p (d + 1) es

/-- The entries of an inventory taken in LINKING are written; change counts stay (R138). -/
def State.takeInventory (s : State) (p d : Nat) : List SlotEntry → State
  | [] => s
  | e :: es => (s.setDrive p d (driveOf e (s.drive p d).changes)).takeInventory p (d + 1) es

/-- An outcome byte of a completion record (R143). -/
def outcomeOf (o : Byte) : FragOutcome := if o = 0 then .ok else .mediumError

/-- A completion record arriving on an ONLINE port: the owner its handle names takes it, if the handle is in flight (R144). -/
def State.takeRecord (s : State) (p : Nat) (r : CompletionRecord) : State :=
  match r.handle with
  | .pool n use =>
    match s.frag n.val with
    | some f => if f.port = p ∧ s.fragUse n.val = use then s.completeFrag n.val (outcomeOf r.outcome) r.data else s
    | none => s
  | .lane l seq ph piece =>
    match (s.lane l.val).frags.find? (fun f => decide (f.port = p ∧ f.seq = seq ∧ f.phase = ph ∧ f.piece = piece.val)) with
    | some f => s.completeLaneFrag l.val f (outcomeOf r.outcome) r.data
    | none => s
  | .slotFlush i seq =>
    match s.mgc.flushFrags.find? (fun f => decide (f.slot = i.val ∧ f.seq = seq ∧ f.port = p)) with
    | some f => s.completeFlush f (outcomeOf r.outcome)
    | none => s
  | .unknown _ _ => s

/-- The handles in flight on a port, by form: pool, lane, slot flush (R144, R145). -/
def State.inFlight (s : State) (p : Nat) : Nat × Nat × Nat :=
  ((s.fragsOn p (fun _ => true)).length,
   ((List.range 4).map (fun l => ((s.lane l).frags.filter (fun f => decide (f.port = p))).length)).sum,
   (s.mgc.flushFrags.filter (fun f => decide (f.port = p))).length)

end Sys2Proof.Machine
end

