-- ==== Sys2Proof/Machine/Wire.lean ====
section
/-! DEFINITION. The byte layouts of R179: the records on the links, and the management requests, read and written. -/

namespace Sys2Proof.Machine

/-! ### Blocks and bytes -/

/-- The bytes of outgoing data, block by block. -/
def dataBytes (bs : List Block) : List Byte := bs.flatMap (fun b => leBytes blockBytes b.toNat)

/-- Bytes padded with zeros to whole blocks (R167); `n` bounds the number of blocks. -/
def toBlocks : Nat → List Byte → List Block
  | 0, _ => []
  | _ + 1, [] => []
  | n + 1, bs => BitVec.ofNat 32768 (ofLe (bs.take blockBytes)) :: toBlocks n (bs.drop blockBytes)

/-! ### Reading fields -/

/-- A number of `n` bytes from the front. -/
def takeN (n : Nat) (bs : List Byte) : Option (Nat × List Byte) :=
  if n ≤ bs.length then some (ofLe (bs.take n), bs.drop n) else none

/-- A value that a request may omit (R179, Field encoding). With a presence byte other than 0 and 1 the body is malformed, which is answered
BAD-ARGUMENT before any check of the request (DESIGN CHOICE, log 5). -/
def takeOpt (n : Nat) (bs : List Byte) : Option (Option Nat × List Byte) :=
  (takeN 1 bs).bind fun (f, r) =>
    if f = 0 then some (none, r) else if f = 1 then (takeN n r).bind fun (x, r2) => some (some x, r2) else none

/-- A fixed number of items, one after another. -/
def takeMany {α : Type} (item : List Byte → Option (α × List Byte)) : Nat → List Byte → Option (List α × List Byte)
  | 0, bs => some ([], bs)
  | n + 1, bs => (item bs).bind fun (x, r) => (takeMany item n r).bind fun (xs, r2) => some (x :: xs, r2)

/-- A list preceded by its two-byte count (R179, Request bodies). -/
def takeList {α : Type} (item : List Byte → Option (α × List Byte)) (bs : List Byte) : Option (List α × List Byte) :=
  (takeN 2 bs).bind fun (k, r) => takeMany item k r

/-- A member entry (R179, Group descriptor). -/
def takeMember (bs : List Byte) : Option (MemberArg × List Byte) :=
  (takeN 1 bs).bind fun (p, r) => (takeN 1 r).bind fun (d, r) => (takeN 6 r).bind fun (b, r) =>
    some ({ port := p, drive := d, base := b }, r)

/-- An extent record as LOAD EXTENTS takes it: bytes 4, 5, 10 and 11 are not examined (R179). -/
def takeExtent (bs : List Byte) : Option (ExtentArg × List Byte) :=
  (takeN 1 bs).bind fun (g, r) => (takeN 1 r).bind fun (st, r) => (takeN 2 r).bind fun (b, r) => (takeN 2 r).bind fun (_, r) =>
    (takeN 2 r).bind fun (gen, r) => (takeN 2 r).bind fun (tag, r) => (takeN 2 r).bind fun (_, r) =>
      some ({ group := g, band := b, state := st, gen := BitVec.ofNat 16 gen, tag := BitVec.ofNat 16 tag }, r)

/-- A location (R101). -/
def takeLoc (bs : List Byte) : Option ((Nat × Nat) × List Byte) :=
  (takeN 1 bs).bind fun (g, r) => (takeN 2 r).bind fun (b, r) => some ((g, b), r)

/-- A name and masked or unmasked (R161, R164). -/
def takeMask (bs : List Byte) : Option (MaskItem × List Byte) :=
  (takeN 1 bs).bind fun (n, r) => (takeN 1 r).bind fun (m, r) => some ({ name := n, masked := m }, r)

/-- A condition and its instance (R159). -/
def takeFault (bs : List Byte) : Option (FaultItem × List Byte) :=
  (takeN 1 bs).bind fun (c, r) => (takeN 1 r).bind fun (i, r) => some ({ cond := c, inst := i }, r)

/-- A first-level mask item (R161). -/
def takeFaultMask (bs : List Byte) : Option (FaultMaskItem × List Byte) :=
  (takeN 1 bs).bind fun (c, r) => (takeN 1 r).bind fun (i, r) => (takeN 1 r).bind fun (m, r) =>
    some ({ cond := c, inst := i, masked := m }, r)

/-- The outcome of a RESOLVE (R124, R125; log 13). -/
def takeResolve (bs : List Byte) : Option (ResolveArg × List Byte) :=
  (takeN 1 bs).bind fun (o, r) =>
    if o = 0 then
      (takeN 1 r).bind fun (st, r) => (takeOpt 8 r).bind fun (b, r) => (takeOpt 1 r).bind fun (p, r) => (takeOpt 1 r).bind fun (w, r) =>
        some (.complete st b p w, r)
    else if o = 1 then some (.pass, r)
    else some (.other o, r)

/-! ### Management requests -/

/-- The arguments of a request body, by request code (R167, 10.3); none where the body is shorter than they need. -/
def readBody (code : Nat) (bs : List Byte) : Option Instr :=
  match code with
  | 1 => (takeN 1 bs).bind fun (g, r) => (takeN 1 r).bind fun (_, r) => (takeN 2 r).bind fun (u, r) => (takeN 1 r).bind fun (w, r) =>
      (takeN 1 r).bind fun (_, r) => (takeN 2 r).bind fun (b, r) => (takeMany takeMember w r).bind fun (ms, _) =>
        some (.loadGroup g u w b ms)
  | 2 => (takeN 1 bs).bind fun (g, _) => some (.activateGroup g)
  | 3 => (takeN 1 bs).bind fun (g, _) => some (.deactivateGroup g)
  | 4 => (takeN 1 bs).bind fun (g, r) => (takeN 2 r).bind fun (f, r) => (takeN 2 r).bind fun (k, _) => some (.readGroup g f k)
  | 5 => (takeN 1 bs).bind fun (v, r) => (takeN 2 r).bind fun (m, r) => (takeN 2 r).bind fun (n, r) => (takeN 1 r).bind fun (d, _) =>
      some (.loadVolume v m n d)
  | 6 => (takeN 1 bs).bind fun (v, r) => (takeN 1 r).bind fun (st, _) => some (.setVolumeState v st)
  | 7 => (takeN 1 bs).bind fun (v, _) => some (.readVolume v)
  | 8 => (takeN 1 bs).bind fun (v, r) => (takeN 2 r).bind fun (f, r) => (takeList takeExtent r).bind fun (l, _) =>
      some (.loadExtents v f l)
  | 9 => (takeN 1 bs).bind fun (v, r) => (takeN 2 r).bind fun (f, r) => (takeN 2 r).bind fun (k, _) => some (.readExtents v f k)
  | 10 => (takeN 4 bs).bind fun (i, r) => (takeN 1 r).bind fun (p, r) => (takeMany (takeN 1) 16 r).bind fun (rs, r) =>
      (takeN 1 r).bind fun (m, _) => some (.loadInitiator (BitVec.ofNat 32 i) p rs m)
  | 11 => (takeN 4 bs).bind fun (i, r) => (takeN 1 r).bind fun (p, _) => some (.dropInitiator (BitVec.ofNat 32 i) p)
  | 12 => (takeN 1 bs).bind fun (f, r) => (takeN 1 r).bind fun (k, _) => some (.readInitiators f k)
  | 13 => (takeN 1 bs).bind fun (v, r) => (takeList takeLoc r).bind fun (l, _) => some (.growVolume v l)
  | 14 => (takeN 1 bs).bind fun (v, r) => (takeN 2 r).bind fun (x, r) => (takeN 1 r).bind fun (g, r) => (takeN 2 r).bind fun (b, r) =>
      (takeN 2 r).bind fun (n, _) => some (.migrate v x g b (BitVec.ofNat 16 n))
  | 15 => (takeN 1 bs).bind fun (v, r) => (takeN 2 r).bind fun (x, r) => (takeN 2 r).bind fun (n, _) =>
      some (.abortMigration v x (BitVec.ofNat 16 n))
  | 16 => (takeN 1 bs).bind fun (i, _) => some (.pauseSlot i)
  | 17 => (takeN 1 bs).bind fun (i, _) => some (.resumeSlot i)
  | 18 => (takeN 1 bs).bind fun (i, _) => some (.readSlot i)
  | 19 => (takeOpt 1 bs).bind fun (a, r) => (takeOpt 1 r).bind fun (b, r) => (takeOpt 1 r).bind fun (c, r) =>
      (takeOpt 1 r).bind fun (d, r) => (takeOpt 2 r).bind fun (e, _) => some (.setCopyPolicy a b c d e)
  | 20 => (takeOpt 2 bs).bind fun (a, r) => (takeOpt 2 r).bind fun (b, _) => some (.setGovernor a b)
  | 21 => some .readSample
  | 22 => (takeN 1 bs).bind fun (f, r) =>
      if f = 0 then (takeOpt 1 r).bind fun (t, _) => some (.setDivert none t)
      else if f = 1 then (takeN 1 r).bind fun (v, r) => (takeN 1 r).bind fun (d, r) => (takeOpt 1 r).bind fun (t, _) =>
        some (.setDivert (some (v, d)) t)
      else none
  | 23 => some .readDiversions
  | 24 => (takeN 1 bs).bind fun (n, r) => (takeN 1 r).bind fun (u, r) => (takeResolve r).bind fun (o, _) =>
      some (.resolve n (BitVec.ofNat 8 u) o)
  | 25 => (takeN 1 bs).bind fun (m, _) => some (.setPowerMode m)
  | 26 => (takeN 1 bs).bind fun (v, _) => some (.powerShelves v)
  | 27 => (takeN 1 bs).bind fun (p, r) => (takeN 1 r).bind fun (v, r) => (takeN 1 r).bind fun (f, _) => some (.powerPort p v f)
  | 28 => (takeN 1 bs).bind fun (p, _) => some (.resetShelfPort p)
  | 29 => (takeN 1 bs).bind fun (p, _) => some (.readShelf p)
  | 30 => (takeOpt 1 bs).bind fun (t, _) => some (.setFragmentTimeout t)
  | 31 => (takeOpt 1 bs).bind fun (t, _) => some (.setScrub t)
  | 32 => (takeN 1 bs).bind fun (k, r) => (takeN 1 r).bind fun (p, _) => some (.checkDiagnostic k p)
  | 33 => some .readNotices
  | 34 => (takeList takeMask bs).bind fun (l, _) => some (.setNoticeMask l)
  | 35 => some .readFaults
  | 36 => (takeList takeFault bs).bind fun (l, _) => some (.clearFaults l)
  | 37 => (takeList takeFaultMask bs).bind fun (a, r) => (takeList takeMask r).bind fun (b, _) => some (.setFaultMasks a b)
  | 38 => some .resetBridge
  | _ => none

/-- The request a request record holds; a record whose header fails the checks of R167 is an unknown request code (log 5). -/
def readRequest (bs : List Byte) : Instr :=
  let code := ofLe (bs.take 2)
  let n := ofLe ((bs.drop 4).take 4)
  if bs.length < 8 + n then .unknownRequestCode (BitVec.ofNat 16 code)
  else (readBody code ((bs.drop 8).take n)).getD (.unknownRequestCode (BitVec.ofNat 16 code))

/-- A value that a request may omit (R179, Field encoding). -/
def putOpt (n : Nat) : Option Nat → List Byte
  | none => [0]
  | some x => 1 :: leBytes n x

/-- A list with its two-byte count (R179, Request bodies). -/
def putList {α : Type} (item : α → List Byte) (l : List α) : List Byte := leBytes 2 l.length ++ l.flatMap item

def putMember (m : MemberArg) : List Byte := leBytes 1 m.port ++ leBytes 1 m.drive ++ leBytes 6 m.base
def putExtent (x : ExtentArg) : List Byte :=
  leBytes 1 x.group ++ leBytes 1 x.state ++ leBytes 2 x.band ++ [255, 0] ++ leBytes 2 x.gen.toNat ++ leBytes 2 x.tag.toNat ++ [0, 0]
def putLoc (l : Nat × Nat) : List Byte := leBytes 1 l.1 ++ leBytes 2 l.2
def putMask (m : MaskItem) : List Byte := leBytes 1 m.name ++ leBytes 1 m.masked
def putFault (f : FaultItem) : List Byte := leBytes 1 f.cond ++ leBytes 1 f.inst
def putFaultMask (f : FaultMaskItem) : List Byte := leBytes 1 f.cond ++ leBytes 1 f.inst ++ leBytes 1 f.masked
def putResolve : ResolveArg → List Byte
  | .complete st b p w => 0 :: (leBytes 1 st ++ putOpt 8 b ++ putOpt 1 p ++ putOpt 1 w)
  | .pass => [1]
  | .other o => leBytes 1 o

/-- The code and body that R179's layouts give a request; none for a command that is no request. -/
def requestParts : Instr → Option (Nat × List Byte)
  | .loadGroup g u w b ms => some (1, leBytes 1 g ++ [0] ++ leBytes 2 u ++ leBytes 1 w ++ [0] ++ leBytes 2 b ++ ms.flatMap putMember)
  | .activateGroup g => some (2, leBytes 1 g)
  | .deactivateGroup g => some (3, leBytes 1 g)
  | .readGroup g f k => some (4, leBytes 1 g ++ leBytes 2 f ++ leBytes 2 k)
  | .loadVolume v m n d => some (5, leBytes 1 v ++ leBytes 2 m ++ leBytes 2 n ++ leBytes 1 d)
  | .setVolumeState v st => some (6, leBytes 1 v ++ leBytes 1 st)
  | .readVolume v => some (7, leBytes 1 v)
  | .loadExtents v f l => some (8, leBytes 1 v ++ leBytes 2 f ++ putList putExtent l)
  | .readExtents v f k => some (9, leBytes 1 v ++ leBytes 2 f ++ leBytes 2 k)
  | .loadInitiator i p rs m => some (10, leBytes 4 i.toNat ++ leBytes 1 p ++ rs.flatMap (leBytes 1) ++ leBytes 1 m)
  | .dropInitiator i p => some (11, leBytes 4 i.toNat ++ leBytes 1 p)
  | .readInitiators f k => some (12, leBytes 1 f ++ leBytes 1 k)
  | .growVolume v l => some (13, leBytes 1 v ++ putList putLoc l)
  | .migrate v x g b n => some (14, leBytes 1 v ++ leBytes 2 x ++ leBytes 1 g ++ leBytes 2 b ++ leBytes 2 n.toNat)
  | .abortMigration v x n => some (15, leBytes 1 v ++ leBytes 2 x ++ leBytes 2 n.toNat)
  | .pauseSlot i => some (16, leBytes 1 i)
  | .resumeSlot i => some (17, leBytes 1 i)
  | .readSlot i => some (18, leBytes 1 i)
  | .setCopyPolicy a b c d e => some (19, putOpt 1 a ++ putOpt 1 b ++ putOpt 1 c ++ putOpt 1 d ++ putOpt 2 e)
  | .setGovernor a b => some (20, putOpt 2 a ++ putOpt 2 b)
  | .readSample => some (21, [])
  | .setDivert none t => some (22, [0] ++ putOpt 1 t)
  | .setDivert (some p) t => some (22, [1] ++ leBytes 1 p.1 ++ leBytes 1 p.2 ++ putOpt 1 t)
  | .readDiversions => some (23, [])
  | .resolve n u o => some (24, leBytes 1 n ++ leBytes 1 u.toNat ++ putResolve o)
  | .setPowerMode m => some (25, leBytes 1 m)
  | .powerShelves v => some (26, leBytes 1 v)
  | .powerPort p v f => some (27, leBytes 1 p ++ leBytes 1 v ++ leBytes 1 f)
  | .resetShelfPort p => some (28, leBytes 1 p)
  | .readShelf p => some (29, leBytes 1 p)
  | .setFragmentTimeout t => some (30, putOpt 1 t)
  | .setScrub t => some (31, putOpt 1 t)
  | .checkDiagnostic k p => some (32, leBytes 1 k ++ leBytes 1 p)
  | .readNotices => some (33, [])
  | .setNoticeMask l => some (34, putList putMask l)
  | .readFaults => some (35, [])
  | .clearFaults l => some (36, putList putFault l)
  | .setFaultMasks a b => some (37, putList putFaultMask a ++ putList putMask b)
  | .resetBridge => some (38, [])
  | _ => none

/-- The request record of a request: header and body (R167, R179); empty for a command that is no request. -/
def requestBytes (i : Instr) : List Byte :=
  match requestParts i with
  | some (code, body) => leBytes 2 code ++ [0, 0] ++ leBytes 4 body.length ++ body
  | none => []

/-! ### Records on the host link -/

/-- The code of a command kind (R179). -/
def kindCode : Kind → Byte
  | .read => 1
  | .write => 2
  | .flush => 3
  | .discard => 4
  | .size => 5
  | .format => 6
  | .control => 7
  | .unknown c => c

/-- The command kind of a code (R179). -/
def kindOf (c : Byte) : Kind :=
  if c = 1 then .read else if c = 2 then .write else if c = 3 then .flush else if c = 4 then .discard
  else if c = 5 then .size else if c = 6 then .format else if c = 7 then .control else .unknown c

/-- The 32 bytes of a command record (R179). -/
def commandBytes (r : CommandRecord) : List Byte :=
  leBytes 4 r.initiator.toNat ++ leBytes 2 r.tag.toNat ++ [kindCode r.kind, r.volume] ++ leBytes 8 r.start.toNat
    ++ leBytes 2 r.length.toNat ++ List.replicate 14 0

/-- The command record that 32 bytes and the data after them spell (R179): the unused bytes are not examined. -/
def readCommand (bs : List Byte) (data : List Block) : CommandRecord :=
  { initiator := BitVec.ofNat 32 (ofLe (bs.take 4)), tag := BitVec.ofNat 16 (ofLe ((bs.drop 4).take 2)),
    kind := kindOf (bs.getD 6 0), volume := bs.getD 7 0, start := BitVec.ofNat 64 (ofLe ((bs.drop 8).take 8)),
    length := BitVec.ofNat 16 (ofLe ((bs.drop 16).take 2)), data := data }

/-- The code of a host status (R179). -/
def HostStatus.code : HostStatus → Nat
  | .good => 0
  | .notReady => 1
  | .accessDenied => 2
  | .outOfRange => 3
  | .invalidRequest => 4
  | .queueFull => 5
  | .busyRetry => 6
  | .sizeChanged => 7
  | .mapFault => 8
  | .deviceError => 9
  | .aborted => 10

/-- The host status of a code (R179). -/
def HostStatus.ofCode? : Nat → Option HostStatus
  | 0 => some .good
  | 1 => some .notReady
  | 2 => some .accessDenied
  | 3 => some .outOfRange
  | 4 => some .invalidRequest
  | 5 => some .queueFull
  | 6 => some .busyRetry
  | 7 => some .sizeChanged
  | 8 => some .mapFault
  | 9 => some .deviceError
  | 10 => some .aborted
  | _ => none

/-- A number of `n` bytes, or the absent field of that width: every bit set (R179). -/
def leOpt (n : Nat) : Option Nat → List Byte
  | some x => leBytes n x
  | none => List.replicate n 255

/-- The reason byte of a status (R179). -/
def reasonByte : Option FragOutcome → Byte
  | some .mediumError => 1
  | some .notPresent => 2
  | some .timeout => 3
  | _ => 255

/-- The 32 bytes of a status record (R179). -/
def statusBytes (r : StatusRecord) : List Byte :=
  leBytes 2 r.tag.toNat ++ [BitVec.ofNat 8 r.status.code, reasonByte r.reason] ++ leOpt 1 r.failingPort ++ [0, 0, 0]
    ++ leOpt 8 r.failingBlock ++ leOpt 8 r.capacity ++ leBytes 2 r.data.length ++ List.replicate 6 0

/-- The code of a refusal reason (R179). -/
def Refuse.code : Refuse → Nat
  | .badArgument => 1
  | .state => 2
  | .conflict => 3
  | .stale => 4
  | .tooLate => 5
  | .noSuch => 6
  | .fenced => 7
  | .limit => 8
  | .busy => 9

/-- A flag in one byte (R179). -/
def flagByte (b : Bool) : Byte := if b then 1 else 0

/-- The response record: header and body (R167, R179). -/
def responseBytes (r : Response) : List Byte :=
  leBytes 2 r.code.toNat
    ++ [flagByte r.refused.isSome, match r.refused with | some x => BitVec.ofNat 8 x.code | none => 0, flagByte r.attention, 0, 0, 0]
    ++ leBytes 4 r.body.length ++ r.body

/-- The returned data of a CONTROL: the response record padded to whole blocks (R167). -/
def responseBlocks (r : Response) : List Block := let b := responseBytes r; toBlocks b.length b

/-! ### Records on the shelf link -/

/-- The form byte and the four handle bytes of a handle (R179). -/
def handleBytes : Handle → Byte × List Byte
  | .pool n u => (0, leBytes 2 n.val ++ [u, 0])
  | .lane l q ph p => (1, [BitVec.ofNat 8 l.val, q, match ph with | .reading => 0 | .writing => 1, BitVec.ofNat 8 p.val])
  | .slotFlush i q => (2, [BitVec.ofNat 8 i.val, q, 0, 0])
  | .unknown f r => (f, leBytes 4 r.toNat)

/-- The handle that a form byte and four bytes spell; bytes its form does not use are not examined (R179). -/
def handleOf (f a b c d : Byte) : Handle :=
  let raw := Handle.unknown f (BitVec.ofNat 32 (ofLe [a, b, c, d]))
  if f = 0 then
    let n := ofLe [a, b]
    if h : n < 4096 then .pool ⟨n, h⟩ c else raw
  else if f = 1 then
    if h : a.toNat < 4 then
      if k : d.toNat < 64 then
        if c = 0 then .lane ⟨a.toNat, h⟩ b .reading ⟨d.toNat, k⟩
        else if c = 1 then .lane ⟨a.toNat, h⟩ b .writing ⟨d.toNat, k⟩ else raw
      else raw
    else raw
  else if f = 2 then (if h : a.toNat < 4 then .slotFlush ⟨a.toNat, h⟩ b else raw)
  else raw

/-- The completion record that 8 bytes and the data after them spell (R179). -/
def readCompletion (bs : List Byte) (data : List Block) : CompletionRecord :=
  { handle := handleOf (bs.getD 0 0) (bs.getD 2 0) (bs.getD 3 0) (bs.getD 4 0) (bs.getD 5 0), outcome := bs.getD 1 0, data := data }

/-- The 8 bytes of a completion record (R179). -/
def completionBytes (r : CompletionRecord) : List Byte :=
  let h := handleBytes r.handle
  [h.1, r.outcome] ++ h.2 ++ [0, 0]

/-- The code of a fragment kind (R179). -/
def FragKind.code : FragKind → Byte
  | .read => 1
  | .write => 2
  | .flush => 3
  | .discard => 4

/-- The bytes of a record sent to a shelf, before its data (R179). -/
def shelfBytes : ShelfRecord → List Byte
  | .fragment h k d dbn n _ =>
    let hb := handleBytes h
    [hb.1, k.code] ++ hb.2 ++ leOpt 1 d ++ [0] ++ leBytes 6 dbn ++ leBytes 2 n
  | .inventoryRequest => List.replicate 8 0

/-- The slot entry that 8 bytes spell (R179); byte 1 is the drive slot number of a slot-change report. -/
def readEntry (bs : List Byte) : Byte × SlotEntry :=
  (bs.getD 1 0, { presence := bs.getD 0 0, capacity := BitVec.ofNat 48 (ofLe ((bs.drop 2).take 6)) })

/-- The 8 bytes of a slot entry (R179). -/
def entryBytes (drive : Byte) (e : SlotEntry) : List Byte := [e.presence, drive] ++ leBytes 6 e.capacity.toNat

/-- A slot entry of an inventory report, from the front: its byte 1 is not examined (R179). -/
def takeEntry (bs : List Byte) : Option (SlotEntry × List Byte) :=
  (takeN 8 bs).map (fun x => ((readEntry bs).2, x.2))

/-- The entries that an inventory report spells: its count in bytes 0 and 1, bytes 2 to 7 not examined, then one entry for each drive
slot, in slot order (R179); none where the report is shorter than its count needs. -/
def readInventory (bs : List Byte) : Option (List SlotEntry) :=
  (takeN 2 bs).bind fun (k, r) => (takeN 6 r).bind fun (_, r) => (takeMany takeEntry k r).map (·.1)

/-- The bytes of an inventory report: an 8-byte header, then its entries (R179). -/
def inventoryBytes (es : List SlotEntry) : List Byte := leBytes 2 es.length ++ List.replicate 6 0 ++ es.flatMap (entryBytes 0)

end Sys2Proof.Machine
end

