-- ==== Sys2Proof/Machine/Mgu.lean ====
section
/-! DEFINITION. The Management Unit (chapter 10): which request is executing, the response it earns, and the shape every request's
meaning takes. -/

namespace Sys2Proof.Machine

/-- What a request answers: DONE (no reason) or REFUSED, and the body of its response (R170). -/
structure Reply where
  refused : Option Refuse
  body : List Byte
  deriving DecidableEq, Repr

/-- The request row executes now: it is the request that a host port reset left executing, or that of the head CONTROL (R168), or the
management queue is empty and the row is commanded on its own (logs 4 and 26). -/
def State.takes (s : State) (i : Instr) : Bool :=
  match s.mgu.orphan, s.mgu.queue with
  | some r, _ => decide (readRequest (dataBytes r.data) = i)
  | none, [] => true
  | none, e :: _ =>
    match s.command e with
    | some c => decide (readRequest (dataBytes c.record.data) = i)
    | none => false

/-- The response is formed and sent: with ATTENTION as ALERT then stands (R165), and the head CONTROL, if there is one, is answered GOOD
with it and leaves the queue (R167, R168). -/
def State.answerRequest (s : State) (code : BitVec 16) (r : Reply) : State :=
  let resp : Response := { code := code, refused := r.refused, attention := s.alert, body := r.body }
  let s1 := s.sendResponse resp
  match s1.mgu.queue with
  | [] => s1
  | e :: rest => (s1.setMgu { s1.mgu with queue := rest }).answerWith e { plainStatus 0 .good with data := responseBlocks resp }

/-- The end of a request: its response is sent, or discarded where a host port reset has taken its CONTROL away (R168; log 26). -/
def State.respond (s : State) (code : BitVec 16) (r : Reply) : State :=
  match s.mgu.orphan with
  | some _ => s.setMgu { s.mgu with orphan := none }
  | none => s.answerRequest code r

/-- The event of one request: its effect, then its response (R169). -/
def State.manage (s : State) (i : Instr) (code : BitVec 16) (f : State → State × Reply) : Host.Outcome State Fault Refusal :=
  s.event (fun t => if t.takes i then (f t).1.respond code (f t).2 else t)

/-- A request that is refused for the first check failed, changing nothing, or done (R170). -/
def State.runRequest (s : State) (i : Instr) (code : BitVec 16) (refusal : State → Option Refuse)
    (effect : State → State × List Byte) : Host.Outcome State Fault Refusal :=
  s.manage i code (fun t =>
    match refusal t with
    | some r => (t, { refused := some r, body := [] })
    | none => ((effect t).1, { refused := none, body := (effect t).2 }))

/-- The same for a request that can leave work due at the slots: its response is formed when it is accepted, and does not wait for that
work, which the end of the event carries out (R165, R169; log 17). -/
def State.runWork (s : State) (i : Instr) (code : BitVec 16) (refusal : State → Option Refuse)
    (effect : State → State × List Byte) : Host.Outcome State Fault Refusal :=
  s.event (fun t =>
    if t.takes i then
      match refusal t with
      | some r => t.respond code { refused := some r, body := [] }
      | none => ((effect t).1.respond code { refused := none, body := (effect t).2 }).settle
    else t)

end Sys2Proof.Machine
end

