-- ==== Sys2Proof/Machine/Operands.lean ====
section
/-! DEFINITION. The operand forms of the management requests: clamping (R172), names and their codes (R179), and the byte forms of the
values that responses carry (log 14). -/

namespace Sys2Proof.Machine

/-! ### Tuning values -/

/-- A value set to the nearest end of its range (R172). -/
def clamp (lo hi x : Nat) : Nat := max lo (min hi x)

/-- A value in ms with steps of 10, rounded down and then set to the nearest end (R172). -/
def clampStep (lo hi x : Nat) : Nat := clamp lo hi (x / 10 * 10)

/-- A tuning value after a request: the given one as clamped, or the stored one if it is left out (R172). -/
def tuned (f : Nat → Nat) (given : Option Nat) (stored : Nat) : Nat :=
  match given with
  | some x => f x
  | none => stored

/-! ### Names -/

/-- A host port by its number (R31). -/
def portOf? : Nat → Option HostPort
  | 0 => some .hp0
  | 1 => some .hp1
  | _ => none

/-- A right by its code (R30, R179). -/
def rightOf : Nat → Right
  | 1 => .read
  | 2 => .readWrite
  | _ => .none

/-- The code of a right (R30, R179). -/
def rightCode : Right → Byte
  | .none => 0
  | .read => 1
  | .readWrite => 2

/-- A power mode by its code (R130, R179). -/
def modeOf? : Nat → Option PowerMode
  | 0 => some .unswitched
  | 1 => some .global
  | 2 => some .individual
  | _ => none

/-- The code of a power mode. -/
def modeCode : PowerMode → Byte
  | .unswitched => 0
  | .global => 1
  | .individual => 2

/-- A priority mode by its code (R93, R179). -/
def priorityOf? : Nat → Option Priority
  | 0 => some .fixed
  | 1 => some .rotating
  | _ => none

/-- The code of a priority mode. -/
def priorityCode : Priority → Byte
  | .fixed => 0
  | .rotating => 1

/-- A reason by its code in the status record (R125, R179; log 13). -/
def reasonOf? : Nat → Option FragOutcome
  | 1 => some .mediumError
  | 2 => some .notPresent
  | 3 => some .timeout
  | _ => none

/-- The codes of the port states (R129, R179). -/
def portStateCode : PortState → Byte
  | .off => 0
  | .powering => 1
  | .linking => 2
  | .online => 3
  | .faulted => 4

/-- The codes of the causes (R129, R179); 255 is absent. -/
def causeCode : Option Cause → Byte
  | some .powerFault => 0
  | some .linkLoss => 1
  | some .linkTimeout => 2
  | none => 255

/-- The codes of a drive's presence in READ SHELF, in the order in which R138's table names them; the slot entry of R179 is another
record, with codes of its own (log 14). -/
def presenceCode (present : Bool) : Byte := if present then 0 else 1

/-- The codes of the lane states (R81, R179). -/
def laneStateCode : LaneState → Byte
  | .free => 0
  | .granted => 1
  | .reading => 2
  | .writing => 3
  | .stopping => 4

/-- The codes of the lane operations (R81, R179); 255 is absent. -/
def laneOpCode : Option LaneOp → Byte
  | some .copy => 0
  | some .zeroFill => 1
  | none => 255

/-- The codes of the slot states (R179, Slot record). -/
def slotStateCode : SlotState → Byte
  | .copying => 1
  | .cutover => 2
  | .retiring => 3
  | .abandoning => 4
  | .zeroing => 5
  | .ending => 6

/-- The codes of the chunk states (R179, Slot record). -/
def chunkCode : ChunkState → Byte
  | .dirty => 0
  | .copying => 1
  | .stale => 2
  | .clean => 3

/-- The codes of the abandon reasons (R179, Slot record). -/
def reasonCode : Reason → Byte
  | .none => 0
  | .abort => 1
  | .targetError => 2
  | .sourceError => 3
  | .cutoverTimeout => 4
  | .mapFault => 5
  | .shelfLost => 6

/-- A divert set as a set of names: bit 0 DISCARD, bit 1 FLUSH (R119, R179). -/
def divertByte (v : Volume) : Byte := (if v.divertDiscard then 1 else 0) + (if v.divertFlush then 2 else 0)

/-- The divert set of a byte that names no other kind (R119). -/
def Volume.withDivert (v : Volume) (d : Nat) : Volume := { v with divertDiscard := d % 2 = 1, divertFlush := d / 2 % 2 = 1 }

/-! ### Byte forms -/

/-- Bytes shown as "zero" (R179). -/
def zeros (n : Nat) : List Byte := List.replicate n 0

/-- An absent field of `n` bytes (R179). -/
def absent (n : Nat) : List Byte := List.replicate n 255

/-- A number that may be absent, as one byte. -/
def optByte (x : Option Nat) : List Byte := leOpt 1 x

/-- A byte or two bytes or four of a number. -/
def le1 (x : Nat) : List Byte := leBytes 1 x
def le2 (x : Nat) : List Byte := leBytes 2 x
def le4 (x : Nat) : List Byte := leBytes 4 x

/-- Fixed-order flags, one byte each. -/
def flagBytes (n : Nat) (f : Nat → Bool) : List Byte := (List.range n).map (fun i => flagByte (f i))

/-- The group descriptor of R179. -/
def groupBytes (g : Nat) : Option Group → List Byte
  | none => le1 g ++ zeros 1 ++ le2 0 ++ zeros 2 ++ le2 0
  | some gr =>
    le1 g ++ [if gr.active then 2 else 1] ++ le2 gr.layout.unit.blocks ++ le1 gr.layout.width ++ zeros 1 ++ le2 gr.layout.bands
      ++ gr.layout.members.flatMap (fun m => le1 m.port ++ le1 m.drive ++ leBytes 6 m.base)

/-- An occupancy entry (R17): kind, record index, slot number. FREE is kind 0, and the field that a kind does not have is sent as absent
(DESIGN CHOICE, log 14). -/
def holderBytes : Option Holder → List Byte
  | none => [0, 255, 255, 255]
  | some (.record i) => [1] ++ le2 i ++ [255]
  | some (.target i) => [2, 255, 255] ++ le1 i
  | some (.retiring i) => [3, 255, 255] ++ le1 i

/-- The slot record of R179, and the fields of R78. The time left of a stopped cutover timer is sent as absent (log 14). -/
def State.slotBytes (s : State) (i : Nat) : List Byte :=
  let sl := s.slot i
  let counts := (List.range 256).flatMap (fun k => le2 (sl.writes k))
  match sl.claim with
  | none =>
    le1 i ++ ([0, 255, 0] : List Byte) ++ absent 15 ++ [reasonCode sl.reason, 255, 255, 255, sl.flushSeq]
      ++ absent 6 ++ le2 sl.readCount ++ zeros 4 ++ absent 256 ++ counts
  | some c =>
    let m := c.move
    le1 i ++ [slotStateCode c.state, if m.isSome then 0 else 1, flagByte sl.pause] ++ le1 c.volume ++ optByte (m.map (·.pass))
      ++ le2 c.extent ++ le2 c.index ++ le1 c.source.group ++ optByte (m.map (·.target.group)) ++ le2 c.source.band
      ++ leOpt 2 (m.map (·.target.band)) ++ leOpt 2 (m.map (·.sweep)) ++ optByte (m.map (·.attempts)) ++ [reasonCode sl.reason]
      ++ le2 c.dirtyCount ++ optByte (m.map (·.flushOut)) ++ [sl.flushSeq] ++ leOpt 4 (m.bind (·.timer)) ++ le2 c.drain.length
      ++ le2 sl.readCount ++ le1 c.hold.length ++ zeros 3 ++ ((List.range 256).map (fun k => chunkCode (c.chunk k)) : List Byte) ++ counts
      ++ c.hold.flatMap (fun e =>
          match s.command e with
          | some cmd => leBytes 4 cmd.record.initiator.toNat ++ le1 cmd.port.toNat ++ zeros 1 ++ le2 cmd.record.tag.toNat
          | none => absent 8)

/-- An Initiator Table entry (R174). A free one is the byte 0 alone: its other fields are left out, not sent as absent ones (DESIGN CHOICE,
log 14). -/
def initiatorBytes : Option Initiator → List Byte
  | none => [0]
  | some e =>
    [1] ++ leBytes 4 e.id.toNat ++ le1 e.port.toNat ++ ((List.range 16).map (fun v => rightCode (e.rights.getD v .none)) : List Byte)
      ++ [flagByte e.manage] ++ flagBytes 16 (fun v => e.sizePending.getLsbD v)

/-- A diversion (R123). Its kind has the code of its place in R120's table, not that of the command record (DESIGN CHOICE, log 14). -/
def State.diversionBytes (s : State) (n : Nat) : List Byte :=
  match Tbl.find s.dvq.entries n with
  | some d =>
    match s.command d.entry with
    | some c =>
      le1 n ++ [Tbl.getD s.dvq.useCounts n 0] ++ leBytes 4 c.record.initiator.toNat ++ le1 c.port.toNat ++ le2 c.record.tag.toNat
        ++ [c.record.volume, match c.record.kind with | .discard => 0 | .flush => 1 | _ => 2] ++ leBytes 8 c.record.start.toNat
        ++ le2 c.record.length.toNat ++ leBytes 4 d.time.toNat ++ le2 d.timer
    | none => []
  | none => []

/-- The power values that the three power requests return (R132). -/
def State.powerBytes (s : State) : List Byte :=
  [modeCode s.spc.mode, flagByte s.spc.globalSwitch]
    ++ (List.range 8).flatMap (fun p =>
      let x := s.port p
      [flagByte x.switch, flagByte x.follow, flagByte x.latch, flagByte x.output, portStateCode x.state])

/-- A port and its drives as READ SHELF returns them (R145); the timers' time left is in ms, since the settle time of R129 is no whole
number of seconds (log 14). The three counts of its in-flight set, pool, lane and slot flush, take two bytes each (DESIGN CHOICE, log 14). -/
def State.shelfPortBytes (s : State) (p : Nat) : List Byte :=
  let x := s.port p
  let n := s.inFlight p
  [modeCode s.spc.mode, flagByte s.spc.globalSwitch, portStateCode x.state, causeCode x.cause, flagByte x.output, flagByte x.switch,
    flagByte x.follow, flagByte x.latch, flagByte x.faultInput] ++ leOpt 2 x.settle ++ leOpt 2 x.link ++ le2 n.1 ++ le2 n.2.1 ++ le2 n.2.2
    ++ (List.range 24).flatMap (fun d =>
      let e := s.drive p d
      [presenceCode (s.drivePresent p d)] ++ leBytes 8 e.capacity ++ [e.changes])

/-- A slot's class in the request set (R99): 255 where it presents no request. The set goes out as one such byte for each slot (DESIGN CHOICE,
log 14). -/
def State.requestByte (s : State) (i : Nat) : Byte :=
  match s.request i with
  | none => 255
  | some .normal => 0
  | some .urgent => 1

/-- A set of the four slots, bit by slot number (R99): R179 gives this form to sets of names, and none to sets of slots (DESIGN CHOICE,
log 14). -/
def slotSet (f : Nat → Bool) : Byte :=
  (if f 0 then 1 else 0) + (if f 1 then 2 else 0) + (if f 2 then 4 else 0) + (if f 3 then 8 else 0)

/-- What READ SAMPLE returns (R99); the form of its sets of slots is that of log 14. -/
def State.sampleBytes (s : State) : List Byte :=
  let a := s.acg
  le2 a.sample.seq.toNat ++ le2 a.sample.length
    ++ (List.range 8).flatMap (fun p =>
      leBytes 4 (Tbl.getD a.sample.host p 0) ++ leBytes 4 (Tbl.getD a.sample.copy p 0) ++ [flagByte (a.sample.busy.contains p)])
    ++ le2 a.busyLevel ++ le2 a.windowLength
    ++ le1 s.cpm.laneCount ++ [priorityCode s.cpm.priority] ++ le1 s.cpm.rotation ++ [flagByte s.stopHold]
    ++ ((List.range 4).map s.requestByte : List Byte)
    ++ [slotSet s.inService, slotSet (fun i => (s.slot i).pause), slotSet s.deferred]
    ++ (List.range 4).flatMap (fun l =>
      let ln := s.lane l
      [laneStateCode ln.state] ++ optByte ln.slot ++ [laneOpCode ln.op] ++ optByte ln.chunk)

/-- The pending diagnostic (R153). -/
def diagBytes : Option (Nat × Nat) → List Byte
  | some d => le1 d.1 ++ le1 d.2
  | none => [255, 255]

/-- A section as SET SCRUB returns it (R154). -/
def State.sectionBytes (s : State) (k : Nat) : List Byte :=
  let x := s.sect k
  let used := (List.range sectionRecords).countP (fun j => s.inUse (sectionRecords * k + j))
  [flagByte x.fenced] ++ leBytes 4 x.check.toNat
    ++ (match x.fence with
        | none => absent 9
        | some f => [match f.cause with | .mismatch => 0 | .diagnostic => 1] ++ leBytes 4 f.computed.toNat ++ leBytes 4 f.compared.toNat)
    ++ le2 x.reload.length ++ le2 used

/-- A notice set (R179). -/
def noticeBytes (x : BitVec 10) : List Byte := le2 x.toNat

end Sys2Proof.Machine
end

