-- ==== Sys2Proof/Machine/Clock.lean ====
section
/-! DEFINITION. The passing of one millisecond: what the part does while no command waits (log 1). Each running timer falls by one and
stops at 0, and the Diversion Queue's time count rises (R120); an expiry is a command of its own (log 2). -/

namespace Sys2Proof.Machine

/-- The fragment timers, of host, lane and target flush fragments. -/
def State.tickFragments (s : State) : State :=
  let s1 := s.setFre { s.fre with frags := Tbl.mapVal s.fre.frags (fun f => { f with timer := f.timer - 1 }) }
  let s2 := s1.setCpm { s1.cpm with
    lanes := Tbl.mapVal s1.cpm.lanes (fun ln => { ln with frags := ln.frags.map (fun f => { f with timer := f.timer - 1 }) }) }
  s2.setMgc { s2.mgc with flushFrags := s2.mgc.flushFrags.map (fun f => { f with timer := f.timer - 1 }) }

/-- The cutover timer of a slot. -/
def tickSlot (sl : Slot) : Slot :=
  match sl.claim with
  | some c =>
    match c.move with
    | some m => { sl with claim := some { c with move := some { m with timer := m.timer.map (· - 1) } } }
    | none => sl
  | none => sl

/-- The cutover timers, the diversion timers and the time count. -/
def State.tickQueues (s : State) : State :=
  let s1 := s.setMgc { s.mgc with slots := Tbl.mapVal s.mgc.slots tickSlot }
  s1.setDvq { s1.dvq with
    entries := Tbl.mapVal s1.dvq.entries (fun d => { d with timer := d.timer - 1 }), timeCount := s1.dvq.timeCount + 1 }

/-- The settle and link timers, the window timer and the scrub timer. -/
def State.tickPorts (s : State) : State :=
  let s1 := s.setSpc { s.spc with
    ports := Tbl.mapVal s.spc.ports (fun x => { x with settle := x.settle.map (· - 1), link := x.link.map (· - 1) }) }
  let s2 := s1.setAcg { s1.acg with windowLeft := s1.acg.windowLeft - 1 }
  s2.setMsb { s2.msb with left := s2.msb.left - 1 }

/-- One millisecond passes; no timer runs while RESETn is asserted (R178). -/
def State.tick (s : State) : State := if s.resetn then s else s.tickFragments.tickQueues.tickPorts

end Sys2Proof.Machine
end

