-- ==== Sys2Proof/Machine/Governor.lean ====
section
/-! DEFINITION. The Activity Governor (4.4): the window end, and the requests of family Governor. -/

namespace Sys2Proof.Machine

/-- The ports judged busy from host counts (R96). -/
def busyPorts (level : Nat) (host : Tbl Nat) : List Nat :=
  if level = 0 then [] else (List.range 8).filter (fun p => decide (level ≤ Tbl.getD host p 0))

/-- One window ends and the next starts (R96). -/
def State.windowTurns (s : State) : State :=
  let a := s.acg
  s.setAcg { a with
    hostCounts := [], copyCounts := [],
    sample := { seq := a.sample.seq + 1, length := a.windowNow, host := a.hostCounts, copy := a.copyCounts,
                busy := busyPorts a.busyLevel a.hostCounts },
    windowNow := a.windowLength, windowLeft := a.windowLength }

def execWindowEnd (s : State) : Host.Outcome State Fault Refusal := s.event State.windowTurns

/-- The effect of SET GOVERNOR (R98). -/
def governorEffect (window level : Option Nat) (s : State) : State :=
  s.setAcg { s.acg with
    windowLength := tuned (clampStep 10 2550) window s.acg.windowLength,
    busyLevel := tuned (clamp 0 65535) level s.acg.busyLevel }

/-- The two values as set and the length of the window in progress (R98). -/
def governorBody (s : State) : List Byte := le2 s.acg.windowLength ++ le2 s.acg.busyLevel ++ le2 s.acg.windowNow

def execSetGovernor (window level : Option Nat) (s : State) : Host.Outcome State Fault Refusal :=
  s.runRequest (.setGovernor window level) 20 (fun _ => none) (fun t => let u := governorEffect window level t; (u, governorBody u))

def execReadSample (s : State) : Host.Outcome State Fault Refusal :=
  s.runRequest .readSample 21 (fun _ => none) (fun t => (t, t.sampleBytes))

end Sys2Proof.Machine
end

