-- ==== Sys2Proof/Machine/Control.lean ====
section
/-! DEFINITION. The resets of the whole part: RESET BRIDGE and RESETn (10.4, 10.5); and the request codes that name nothing. -/

namespace Sys2Proof.Machine

/-- Every queued command is answered ABORTED (R29, R50). -/
def State.abortQueue (s : State) (p : HostPort) : State :=
  (s.queue p).foldl (fun t r => t.sendHost p (plainStatus r.tag .aborted)) (s.setQueue p [])

/-- What RESET BRIDGE does to one Command Table entry: an abort mark in ISSUED, else ABORTED (R50). -/
def State.abortEntry (s : State) (e : Nat) : State :=
  match s.command e with
  | some c =>
    match c.state with
    | .issued i => s.setCommand e { c with state := .issued { i with abort := true } }
    | _ => s.answer e .aborted
  | none => s

/-- Every Command Table entry, by number (R50). -/
def State.abortCommands (s : State) : State := (s.fre.commands.map (fun c => c.1)).foldl State.abortEntry s

/-- The record of a slot goes back: MOVING to PLAIN at its own location, ZEROING to ZERO (R12). -/
def reverted (r : ExtRec) : ExtRec :=
  match r.state with
  | .moving => { r with state := .plain, slot := none }
  | .zeroing => { r with state := .zero, slot := none }
  | _ => r

/-- Every MOVING or ZEROING record is reverted by an LMU write (R12). -/
def State.revertRecords (s : State) : State :=
  ((s.lmu.extents.filter (fun x => decide (x.2.state = .moving ∨ x.2.state = .zeroing))).map (fun x => x.1)).foldl
    (fun t i => t.writeRec i (reverted (t.recAt i))) s

/-- Every kind 2 and kind 3 hold is released (R21). -/
def State.releaseSlotHolds (s : State) : State :=
  s.setLmu { s.lmu with bands := s.lmu.bands.filter (fun b => match b.2 with | .record _ => true | _ => false) }

/-- Every slot goes FREE, with its kept fields, and no report waits (R79). -/
def State.freeSlots (s : State) : State :=
  s.setMgc { s.mgc with
    slots := Tbl.mapVal s.mgc.slots (fun sl => { sl with claim := none, pause := false }), exitReports := [], fenceReports := [] }

/-- The lanes stop and the rotation pointer returns to 3 (R88, R94). -/
def State.stopLanes (s : State) : State :=
  let s1 := (((s.stopLane 0).stopLane 1).stopLane 2).stopLane 3
  s1.setCpm { s1.cpm with rotation := 3 }

/-- The governor's counters and sample are cleared and a new window starts (R100). -/
def State.resetGovernor (s : State) : State :=
  s.setAcg { s.acg with
    hostCounts := [], copyCounts := [], sample := .initial, windowNow := s.acg.windowLength, windowLeft := s.acg.windowLength }

/-- The Diversion Queue is emptied (R128). -/
def State.emptyDiversions (s : State) : State := s.setDvq { s.dvq with entries := [], order := [] }

/-- The reset that RESET BRIDGE takes (R175), once its own CONTROL is answered. -/
def State.bridgeReset (s : State) : State :=
  let s1 := ((s.abortQueue .hp0).abortQueue .hp1).abortCommands
  let s2 := (s1.setFre { s1.fre with reentry := [] }).revertRecords
  let s3 := (s2.releaseSlotHolds.freeSlots.stopLanes).resetGovernor.emptyDiversions
  (s3.setFnu { s3.fnu with notices := 0 }).setMgu .reset

/-- RESET BRIDGE (R175): its response is formed first, then the reset is taken. -/
def execResetBridge (s : State) : Host.Outcome State Fault Refusal :=
  s.event (fun t => if t.takes .resetBridge then (t.respond 38 { refused := none, body := [] }).bridgeReset else t)

/-- Everything at its power-on value, but for what is outside the part's state: the queue of commands, what has been sent, the levels of
the current-fault inputs, and the place in the free values (R177, R178; log 20). -/
def State.powerOn (s : State) (resetn : Bool) : State :=
  { State.reset with
    pending := s.pending, resetn := resetn, hostOut := s.hostOut, shelfOut := s.shelfOut, responses := s.responses,
    freeCount := s.freeCount,
    spc := { Spc.reset with ports := Tbl.mapVal s.spc.ports (fun x => { Port.initial with faultInput := x.faultInput }) } }

/-- RESETn is asserted: every piece of state is discarded at once (R177). -/
def execResetnAssert (s : State) : Host.Outcome State Fault Refusal := .next (s.powerOn true)

/-- RESETn is released: every block holds its power-on values, and the three timers start (R178). -/
def execResetnRelease (s : State) : Host.Outcome State Fault Refusal := .next (if s.resetn then s.powerOn false else s)

/-- A request whose header fails the checks of R167: REFUSED, BAD-ARGUMENT, nothing changes (log 5). The response has no body, with the code of
CHECK DIAGNOSTIC neither, although R153 says that every response of that request gives the pending diagnostic (DESIGN CHOICE, log 5). -/
def execUnknownRequestCode (code : BitVec 16) (s : State) : Host.Outcome State Fault Refusal :=
  s.manage (.unknownRequestCode code) code (fun t => (t, { refused := some .badArgument, body := [] }))

end Sys2Proof.Machine
end

