-- ==== Sys2Proof/Machine/Diverted.lean ====
section
/-! DEFINITION. Diverted commands (chapter 6): the requests of family Diversion and the expiry of a diversion timer. -/

namespace Sys2Proof.Machine

/-- The checks of SET DIVERT (R119). -/
def setDivertRefusal (part : Option (Nat × Nat)) (timeout : Option Nat) (s : State) : Option Refuse :=
  match part with
  | none => if timeout.isNone then some .badArgument else none
  | some p =>
    if 15 < p.1 ∨ 3 < p.2 then some .badArgument
    else if (s.volume p.1).isNone then some .noSuch
    else none

/-- The effect of SET DIVERT (R119). -/
def setDivertEffect (part : Option (Nat × Nat)) (timeout : Option Nat) (s : State) : State :=
  let s1 := match part with
    | some p => (match s.volume p.1 with | some v => s.setVolume p.1 (v.withDivert p.2) | none => s)
    | none => s
  s1.setDvq { s1.dvq with timeout := tuned (clamp 1 60) timeout s1.dvq.timeout }

/-- The volume's set, if one was given, and the timeout in force (R119). Where no volume was given the set's byte is left out, not sent as an
absent field (DESIGN CHOICE, log 14). -/
def setDivertBody (part : Option (Nat × Nat)) (s : State) : List Byte :=
  (match part with
    | some p => (match s.volume p.1 with | some v => [divertByte v] | none => [])
    | none => []) ++ le1 s.dvq.timeout

def execSetDivert (part : Option (Nat × Nat)) (timeout : Option Nat) (s : State) : Host.Outcome State Fault Refusal :=
  s.runRequest (.setDivert part timeout) 22 (setDivertRefusal part timeout)
    (fun t => let u := setDivertEffect part timeout t; (u, setDivertBody part u))

/-- The body of READ DIVERSIONS (R123). -/
def readDiversionsBody (s : State) : List Byte :=
  le1 s.dvq.entries.length ++ leBytes 4 s.dvq.timeCount.toNat ++ le1 s.dvq.timeout ++ s.dvq.order.flatMap s.diversionBytes

def execReadDiversions (s : State) : Host.Outcome State Fault Refusal :=
  s.runRequest .readDiversions 23 (fun _ => none) (fun t => (t, readDiversionsBody t))

/-- The diverted command of an entry in use (R120). -/
def State.divertedCommand (s : State) (n : Nat) : Option (Nat × Command) :=
  match Tbl.find s.dvq.entries n with
  | some d => (s.command d.entry).map (fun c => (d.entry, c))
  | none => none

/-- The fields of a COMPLETE with DEVICE-ERROR fit the kind of the entry (R125). -/
def fieldsFit (r : CommandRecord) (block port reason : Option Nat) : Bool :=
  let why := (reason.bind reasonOf?).isSome
  match r.kind with
  | .discard =>
    why && port.isNone
      && (match block with | some b => decide (r.start.toNat ≤ b ∧ b < r.start.toNat + r.length.toNat) | none => false)
  | .flush => why && block.isNone && (match port with | some p => decide (p ≤ 7) | none => false)
  | _ => why && block.isNone && port.isNone

/-- The checks of RESOLVE (R124). With a status other than DEVICE-ERROR no field is examined, an unknown reason code neither (DESIGN CHOICE,
log 13). -/
def resolveRefusal (n : Nat) (use : Byte) (o : ResolveArg) (s : State) : Option Refuse :=
  let outcome := match o with
    | .complete st _ _ _ => (HostStatus.ofCode? st).isSome
    | .pass => true
    | .other _ => false
  if 15 < n ∨ outcome = false then some .badArgument
  else if Tbl.getD s.dvq.useCounts n 0 ≠ use then some .noSuch
  else match s.divertedCommand n with
    | none => some .noSuch
    | some q =>
      match o with
      | .pass => if q.2.record.kind = .format then some .state else none
      | .complete st b p w =>
        if HostStatus.ofCode? st = some .deviceError ∧ fieldsFit q.2.record b p w = false then some .badArgument else none
      | .other _ => none

/-- The status a RESOLVE with COMPLETE gives (R125): the optional fields only with DEVICE-ERROR; given with another status they are dropped
(DESIGN CHOICE, log 13). -/
def resolvedStatus (st : HostStatus) (block port reason : Option Nat) : StatusRecord :=
  if st = .deviceError then
    { plainStatus 0 st with reason := reason.bind reasonOf?, failingPort := port, failingBlock := block }
  else plainStatus 0 st

/-- The effect of RESOLVE (R124 to R126). -/
def resolveEffect (n : Nat) (o : ResolveArg) (s : State) : State :=
  match s.divertedCommand n with
  | none => s
  | some q =>
    let s1 := s.freeDiversion n
    match o with
    | .complete st b p w =>
      match HostStatus.ofCode? st with
      | some h => s1.answerWith q.1 (resolvedStatus h b p w)
      | none => s
    | .pass => s1.rejoin [q.1] .check8
    | .other _ => s

def execResolve (n : Nat) (use : Byte) (o : ResolveArg) (s : State) : Host.Outcome State Fault Refusal :=
  s.runRequest (.resolve n use o) 24 (resolveRefusal n use o) (fun t => (resolveEffect n o t, []))

/-- A diversion timer expires (R127). -/
def State.diversionExpires (s : State) (n : Nat) : State :=
  match Tbl.find s.dvq.entries n with
  | some d => ((s.answer d.entry .aborted).freeDiversion n).raise .diversionTimeout
  | none => s

def execDiversionTimerExpiry (n : Fin 16) (s : State) : Host.Outcome State Fault Refusal := s.event (fun t => t.diversionExpires n.val)

end Sys2Proof.Machine
end

