-- ==== Sys2Proof/Machine/Events.lean ====
section
/-! DEFINITION. The events of the host links, of admission, of the slots and of the lanes (chapters 2 to 4). -/

namespace Sys2Proof.Machine

/-- A command record arrives on a host port (R27). -/
def State.arrive (s : State) (p : HostPort) (r : CommandRecord) : State :=
  if (s.queue p).length < 128 then s.setQueue p (s.queue p ++ [r]) else s.sendHost p (plainStatus r.tag .queueFull)

def execCommandRecord (p : HostPort) (r : CommandRecord) (s : State) : Host.Outcome State Fault Refusal := s.event (fun t => t.arrive p r)

def execTakeQueueHead (p : HostPort) (s : State) : Host.Outcome State Fault Refusal := s.event (fun t => t.takeHead p)

def execServeReentry (s : State) : Host.Outcome State Fault Refusal := s.event State.serve

/-- The Command Table entries of a port (R49). -/
def State.entriesOf (s : State) (p : HostPort) : List Nat :=
  (s.fre.commands.filter (fun c => decide (c.2.port = p))).map (fun c => c.1)

/-- Commands leave every hold list (R49, R67). -/
def State.unhold (s : State) (es : List Nat) : State :=
  (List.range 4).foldl (fun t i =>
    match (t.slot i).claim with
    | some c => t.setClaim i { c with hold := c.hold.filter (fun e => !es.contains e) }
    | none => t) s

/-- Commands leave the Diversion Queue with their entries (R49, R128). -/
def State.undivert (s : State) (es : List Nat) : State :=
  let gone := (s.dvq.entries.filter (fun d => es.contains d.2.entry)).map (fun d => d.1)
  s.setDvq { s.dvq with
    entries := s.dvq.entries.filter (fun d => !es.contains d.2.entry), order := s.dvq.order.filter (fun n => !gone.contains n) }

/-- Commands leave the Command Table and the re-entry list, and their fragments are orphaned (R49). -/
def State.forget (s : State) (es : List Nat) : State :=
  s.setFre { s.fre with
    commands := s.fre.commands.filter (fun c => !es.contains c.1),
    reentry := s.fre.reentry.filter (fun q => !es.contains q.1),
    frags := Tbl.mapVal s.fre.frags (fun f =>
      match f.owner with
      | some e => if es.contains e then { f with owner := none } else f
      | none => f) }

/-- The request at the head of the management queue, if its CONTROL is of a port and no earlier request is still executing. -/
def State.headRequest (s : State) (p : HostPort) : Option CommandRecord :=
  match s.mgu.orphan, s.mgu.queue with
  | none, e :: _ =>
    match s.command e with
    | some c => if c.port = p then some c.record else none
    | none => none
  | _, _ => none

/-- The requests of a port leave the management queue; the head one, if it has begun to execute, stays to run to its end without its
CONTROL (R49, R168). Whether it has begun is a free value (log 26). -/
def State.cutRequests (s : State) (p : HostPort) : State :=
  let q := s.mgu.queue.filter (fun e => !(s.entriesOf p).contains e)
  match s.headRequest p with
  | some r =>
    (s.setFreeCount (s.freeCount + 1)).setMgu { queue := q, orphan := if Config.requestBegun s.freeCount then some r else none }
  | none => s.setMgu { s.mgu with queue := q }

/-- A host port reset (R49, R128, R157, R168): the commands of the port are removed wherever they stand, and the link-reset count
rises. -/
def State.hostReset (s : State) (p : HostPort) : State :=
  let es := s.entriesOf p
  let s1 := ((((s.cutRequests p).setQueue p []).unhold es).undivert es).forget es
  s1.setLinkResets p (min 255 (s1.linkResets p + 1))

def execHostPortReset (p : HostPort) (s : State) : Host.Outcome State Fault Refusal := s.event (fun t => (t.hostReset p).settle)

def execLaneGrant (s : State) : Host.Outcome State Fault Refusal := s.event State.grant

def execTakeGrant (i : Fin 4) (s : State) : Host.Outcome State Fault Refusal := s.event (fun t => t.takeGrant i.val)

def execCopyCompletion (l : Fin 4) (s : State) : Host.Outcome State Fault Refusal := s.event (fun t => t.takeCompletion l.val)

def execCutoverTimerExpiry (i : Fin 4) (s : State) : Host.Outcome State Fault Refusal := s.event (fun t => (t.cutoverExpired i.val).settle)

/-- A slot takes a port's exit that was reported to it (R141). -/
def State.exitReport (s : State) (i p : Nat) : State :=
  if s.mgc.exitReports.contains (i, p) then
    ((s.setMgc { s.mgc with exitReports := s.mgc.exitReports.filter (fun r => r != (i, p)) }).takeExit i p).settle
  else s

def execPortExitReport (i : Fin 4) (p : Fin 8) (s : State) : Host.Outcome State Fault Refusal :=
  s.event (fun t => t.exitReport i.val p.val)

/-- A slot takes a fence that was reported to it (R150). -/
def State.fenceTaken (s : State) (i : Nat) : State :=
  if s.mgc.fenceReports.contains i then
    ((s.setMgc { s.mgc with fenceReports := s.mgc.fenceReports.filter (fun r => r != i) }).takeFence i).settle
  else s

def execFenceReport (i : Fin 4) (s : State) : Host.Outcome State Fault Refusal := s.event (fun t => t.fenceTaken i.val)

end Sys2Proof.Machine
end

