-- ==== Sys2Proof/Machine/Integrity.lean ====
section
/-! DEFINITION. The Map Scrubber (chapter 8): the scrub visit, damage to the map memory, and the requests of family Integrity. -/

namespace Sys2Proof.Machine

/-- The compared value of a visit: the stored check as the pattern alters it (R153). -/
def comparedValue (pattern : Nat) (check : BitVec 32) : BitVec 32 :=
  match pattern with
  | 1 => check ^^^ 1#32
  | 2 => ~~~ check
  | _ => (check <<< 16) ||| (check >>> 16)

/-- What a visit does to an UNFENCED section (R149, R150, R153). -/
def State.visitSection (s : State) (k : Nat) : State :=
  let stored := (s.sect k).check
  let computed := sectionCheck s.lmu.extents k
  match s.msb.diagnostic with
  | some d =>
    if d.1 = k then
      (s.setMsb { s.msb with diagnostic := none }).fence k .diagnostic computed (comparedValue d.2 stored)
    else if computed = stored then s else s.fence k .mismatch computed stored
  | none => if computed = stored then s else s.fence k .mismatch computed stored

/-- The scrub position moves on, the cycle count with it from 63, and the timer starts again (R149). -/
def State.scrubAdvance (s : State) : State :=
  let m := s.msb
  s.setMsb { m with
    position := if m.position = 63 then 0 else m.position + 1,
    cycle := if m.position = 63 then m.cycle + 1 else m.cycle,
    left := m.interval }

/-- A scrub visit (R149). -/
def State.scrub (s : State) : State :=
  let k := s.msb.position
  (if (s.sect k).fenced then s else s.visitSection k).scrubAdvance

def execScrubVisit (s : State) : Host.Outcome State Fault Refusal := s.event State.scrub

/-- The map memory changes of itself: the record's stored contents become these, and nothing else (R148). -/
def execMapMemoryFault (i : Fin 65536) (r : ExtRec) (s : State) : Host.Outcome State Fault Refusal :=
  s.event (fun t => t.storeRec i.val r)

/-- The effect of SET SCRUB (R154). -/
def setScrubEffect (x : Option Nat) (s : State) : State :=
  s.setMsb { s.msb with interval := tuned (clamp 1 255) x s.msb.interval }

/-- The body of SET SCRUB (R154). -/
def scrubBody (s : State) : List Byte :=
  le1 s.msb.interval ++ le1 s.msb.left ++ le1 s.msb.position ++ le2 s.msb.cycle.toNat ++ diagBytes s.msb.diagnostic
    ++ (List.range 64).flatMap s.sectionBytes

def execSetScrub (x : Option Nat) (s : State) : Host.Outcome State Fault Refusal :=
  s.runRequest (.setScrub x) 31 (fun _ => none) (fun t => let u := setScrubEffect x t; (u, scrubBody u))

/-- The checks of CHECK DIAGNOSTIC (R153). -/
def diagnosticRefusal (k pattern : Nat) (s : State) : Option Refuse :=
  if 63 < k ∨ 3 < pattern then some .badArgument
  else if pattern = 0 then none
  else if (s.sect k).fenced then some .state
  else none

/-- The effect of CHECK DIAGNOSTIC (R153). -/
def diagnosticEffect (k pattern : Nat) (s : State) : State :=
  s.setMsb { s.msb with diagnostic := if pattern = 0 then none else some (k, pattern) }

/-- Every response of CHECK DIAGNOSTIC gives the pending diagnostic, a refusal too (R153). -/
def diagnosticReply (k pattern : Nat) (s : State) : State × Reply :=
  match diagnosticRefusal k pattern s with
  | some r => (s, { refused := some r, body := diagBytes s.msb.diagnostic })
  | none => let u := diagnosticEffect k pattern s; (u, { refused := none, body := diagBytes u.msb.diagnostic })

def execCheckDiagnostic (k pattern : Nat) (s : State) : Host.Outcome State Fault Refusal :=
  s.manage (.checkDiagnostic k pattern) 32 (diagnosticReply k pattern)

end Sys2Proof.Machine
end

