-- ==== Sys2Proof/Machine/Migration.lean ====
section
/-! DEFINITION. The requests on migration slots and the copy policy (10.3, family Migration; chapters 3 to 5). -/

namespace Sys2Proof.Machine

/-- A location is ACTIVE and in range (R58). -/
def State.targetOk (s : State) (l : Loc) : Bool :=
  match s.group l.group with
  | some gr => gr.active && decide (l.band < gr.layout.bands)
  | none => false

/-- The slot that holds a MOVING extent: the one its record names, claimed for that record (R58, R76; log 19). -/
def State.movingSlot (s : State) (idx : Nat) : Option (Nat × Claim × Move) :=
  match (s.recAt idx).state, (s.recAt idx).slot with
  | .moving, some i =>
    match (s.slot i.val).claim with
    | some c =>
      match c.move with
      | some m => if c.index = idx then some (i.val, c, m) else none
      | none => none
    | none => none
  | _, _ => none

/-- The restart case of MIGRATE: the slot is in COPYING and its target is the one given (R58, R60). -/
def State.restartSlot (s : State) (idx : Nat) (target : Loc) : Option Nat :=
  match s.movingSlot idx with
  | some q => if q.2.1.state = .copying ∧ q.2.2.target = target then some q.1 else none
  | none => none

/-- The target band is held by another holder than the slot that holds this extent: check 4 of R58. -/
def State.bandTaken (s : State) (idx : Nat) (target : Loc) : Bool :=
  match s.holder target with
  | none => false
  | some h =>
    match s.movingSlot idx with
    | some q => decide (h ≠ .target q.1)
    | none => true

/-- The checks of MIGRATE (R58). -/
def migrateRefusal (v x g b : Nat) (gen : BitVec 16) (s : State) : Option Refuse :=
  if 15 < v then some .badArgument
  else match s.volume v with
    | none => some .noSuch
    | some vol =>
      let idx := vol.mapBase + x
      let r := s.recAt idx
      if vol.count ≤ x then some .badArgument
      else if gen ≠ r.gen then some .stale
      else if 255 < g ∨ s.targetOk ⟨g, b⟩ = false then some .badArgument
      else if s.bandTaken idx ⟨g, b⟩ then some .conflict
      else if (r.state = .moving ∨ r.state = .zeroing) ∧ s.restartSlot idx ⟨g, b⟩ = none then some .state
      else if r.state = .plain ∧ s.freeSlotNo = none then some .busy
      else if s.fencedAt idx then some .fenced
      else none

/-- A ZERO extent is re-pointed (R118): record, generation and kind 1 hold move to the target. The old location is released if the
record holds it; of a damaged record that does not, nothing is released there (log 8). -/
def State.repoint (s : State) (idx : Nat) (target : Loc) : State :=
  let r := s.recAt idx
  let old : Loc := ⟨r.group.toNat, r.band.toNat⟩
  let s1 := s.writeRec idx
    { r with group := BitVec.ofNat 8 target.group, band := BitVec.ofNat 16 target.band, gen := r.gen + 1 }
  (s1.release old (.record idx)).hold target (.record idx)

/-- The effect of MIGRATE, with the slot its response carries (R59, R60, R118); what it makes due at a slot comes after the response. -/
def migrateEffect (v x g b : Nat) (s : State) : State × List Byte :=
  match s.volume v with
  | none => (s, absent 1)
  | some vol =>
    let idx := vol.mapBase + x
    match (s.recAt idx).state with
    | .plain =>
      match s.freeSlotNo with
      | some i => (s.claimMove i v x idx ⟨g, b⟩, le1 i)
      | none => (s, absent 1)
    | .zero => (s.repoint idx ⟨g, b⟩, absent 1)
    | _ =>
      match s.restartSlot idx ⟨g, b⟩ with
      | some i => (s.restart i, le1 i)
      | none => (s, absent 1)

def execMigrate (v x g b : Nat) (gen : BitVec 16) (s : State) : Host.Outcome State Fault Refusal :=
  s.runWork (.migrate v x g b gen) 14 (migrateRefusal v x g b gen) (migrateEffect v x g b)

/-- A RETIRING slot holds this extent (R76). -/
def State.retiringHolds (s : State) (v x : Nat) : Bool :=
  (List.range 4).any (fun i =>
    match (s.slot i).claim with
    | some c => decide (c.state = .retiring ∧ c.volume = v ∧ c.extent = x)
    | none => false)

/-- The checks of ABORT MIGRATION (R76). -/
def abortRefusal (v x : Nat) (gen : BitVec 16) (s : State) : Option Refuse :=
  if 15 < v then some .badArgument
  else match s.volume v with
    | none => some .noSuch
    | some vol =>
      let idx := vol.mapBase + x
      if vol.count ≤ x then some .badArgument
      else if s.retiringHolds v x then some .tooLate
      else if gen ≠ (s.recAt idx).gen then some .stale
      else if s.fencedAt idx then some .fenced
      else if (s.recAt idx).state ≠ .moving then some .state
      else none

/-- The effect of ABORT MIGRATION: the abandon begins with reason ABORT (R73, R76); if no lane serves the slot it completes in the same
event, after the response (R169). -/
def abortEffect (v x : Nat) (s : State) : State :=
  match s.volume v with
  | some vol =>
    match s.movingSlot (vol.mapBase + x) with
    | some q => s.abandon q.1 .abort
    | none => s
  | none => s

def execAbortMigration (v x : Nat) (gen : BitVec 16) (s : State) : Host.Outcome State Fault Refusal :=
  s.runWork (.abortMigration v x gen) 15 (abortRefusal v x gen) (fun t => (abortEffect v x t, []))

/-- The checks of PAUSE SLOT and RESUME SLOT (R77). -/
def pauseRefusal (i : Nat) (s : State) : Option Refuse :=
  if 3 < i then some .badArgument else if (s.slot i).claim.isNone then some .state else none

/-- The pause flag of a slot is written (R77). -/
def State.setPause (s : State) (i : Nat) (v : Bool) : State := s.setSlot i { s.slot i with pause := v }

def execPauseSlot (i : Nat) (s : State) : Host.Outcome State Fault Refusal :=
  s.runRequest (.pauseSlot i) 16 (pauseRefusal i) (fun t => (t.setPause i true, []))

def execResumeSlot (i : Nat) (s : State) : Host.Outcome State Fault Refusal :=
  s.runRequest (.resumeSlot i) 17 (pauseRefusal i) (fun t => (t.setPause i false, []))

def execReadSlot (i : Nat) (s : State) : Host.Outcome State Fault Refusal :=
  s.runRequest (.readSlot i) 18 (fun _ => if 3 < i then some .badArgument else none) (fun t => (t, t.slotBytes i))

/-- SET COPY POLICY refuses only a priority mode outside its set (R93, R172); the refusal carries no body, although R65 and R172 say that "the
response" gives the values (DESIGN CHOICE, log 14). -/
def copyPolicyRefusal (mode : Option Nat) : Option Refuse :=
  match mode with
  | none => none
  | some m => if (priorityOf? m).isNone then some .badArgument else none

/-- The effect of SET COPY POLICY (R65, R93). -/
def copyPolicyEffect (lanes mode threshold limit timeout : Option Nat) (s : State) : State :=
  let s1 := s.setCpm { s.cpm with
    laneCount := tuned (clamp 1 4) lanes s.cpm.laneCount,
    priority := match mode with | some m => (priorityOf? m).getD s.cpm.priority | none => s.cpm.priority }
  s1.setMgc { s1.mgc with
    threshold := tuned (clamp 0 64) threshold s1.mgc.threshold,
    passLimit := tuned (clamp 1 15) limit s1.mgc.passLimit,
    cutoverTimeout := tuned (clampStep 10 2550) timeout s1.mgc.cutoverTimeout }

/-- The five values in force (R65). -/
def copyPolicyBody (s : State) : List Byte :=
  le1 s.cpm.laneCount ++ [priorityCode s.cpm.priority] ++ le1 s.mgc.threshold ++ le1 s.mgc.passLimit ++ le2 s.mgc.cutoverTimeout

def execSetCopyPolicy (lanes mode threshold limit timeout : Option Nat) (s : State) : Host.Outcome State Fault Refusal :=
  s.runRequest (.setCopyPolicy lanes mode threshold limit timeout) 19 (fun _ => copyPolicyRefusal mode)
    (fun t => let u := copyPolicyEffect lanes mode threshold limit timeout t; (u, copyPolicyBody u))

end Sys2Proof.Machine
end

