-- ==== Sys2Proof/Machine/Reporting.lean ====
section
/-! DEFINITION. The requests of family Reporting (chapter 9). -/

namespace Sys2Proof.Machine

/-- The code that stands for ALL in place of a name (R179). -/
abbrev allCode : Nat := 255

def execReadNotices (s : State) : Host.Outcome State Fault Refusal :=
  s.runRequest .readNotices 33 (fun _ => none) (fun t => (t.setFnu { t.fnu with notices := 0 }, noticeBytes t.fnu.notices))

/-- Set the flags `idx` of a mask to a value. -/
def setFlags {n : Nat} (x : BitVec n) (idx : List Nat) (v : Bool) : BitVec n := idx.foldl (fun m i => setFlag m i v) x

/-- The flags that a name of a list of `n` names stands for: one, or ALL. -/
def namedFlags (n name : Nat) : List Nat := if name = allCode then List.range n else [name]

/-- An item names one of `n` names or ALL, and masked or unmasked (R161, R164, R179). -/
def maskItemOk (n : Nat) (m : MaskItem) : Bool := decide ((m.name < n ∨ m.name = allCode) ∧ m.masked ≤ 1)

/-- Mask items applied in the order listed (R161, R164). -/
def applyMasks {n : Nat} (x : BitVec n) (l : List MaskItem) : BitVec n :=
  l.foldl (fun m i => setFlags m (namedFlags n i.name) (decide (i.masked = 1))) x

/-- The checks of SET NOTICE MASK (R164). -/
def noticeMaskRefusal (l : List MaskItem) : Option Refuse :=
  if l = [] ∨ l.all (maskItemOk 10) = false then some .badArgument else none

/-- The effect of SET NOTICE MASK (R164). -/
def noticeMaskEffect (l : List MaskItem) (s : State) : State := s.setFnu { s.fnu with noticeMask := applyMasks s.fnu.noticeMask l }

def execSetNoticeMask (l : List MaskItem) (s : State) : Host.Outcome State Fault Refusal :=
  s.runRequest (.setNoticeMask l) 34 (fun _ => noticeMaskRefusal l)
    (fun t => let u := noticeMaskEffect l t; (u, noticeBytes u.fnu.noticeMask))

/-- The body of READ FAULTS (R160); the 102 conditions stand in the order of R156's table (DESIGN CHOICE, log 14). -/
def faultsBody (s : State) : List Byte :=
  flagBytes 102 s.condAt ++ flagBytes 102 s.stands ++ le1 s.fnu.resets0 ++ le1 s.fnu.resets1 ++ flagBytes 102 (fun i => s.fnu.mask1.getLsbD i)
    ++ flagBytes 4 s.summary ++ flagBytes 4 (fun g => s.fnu.mask2.getLsbD g) ++ [flagByte s.alert]

def execReadFaults (s : State) : Host.Outcome State Fault Refusal :=
  s.runRequest .readFaults 35 (fun _ => none) (fun t => (t, faultsBody t))

/-- The conditions that an item names (R159): none where it names an unknown one. ALL is an item of the list, and may stand beside others
(DESIGN CHOICE, log 13). -/
def namedConds (cond inst : Nat) : List Nat := if cond = allCode then List.range 102 else (condOf cond inst).toList

/-- The checks of CLEAR FAULTS (R159). -/
def clearFaultsRefusal (l : List FaultItem) : Option Refuse :=
  if l = [] ∨ l.any (fun x => decide (namedConds x.cond x.inst = [])) then some .badArgument else none

/-- The effect of CLEAR FAULTS (R159). -/
def clearFaultsEffect (l : List FaultItem) (s : State) : State :=
  (l.flatMap (fun x => namedConds x.cond x.inst)).foldl State.clearCond s

def execClearFaults (l : List FaultItem) (s : State) : Host.Outcome State Fault Refusal :=
  s.runRequest (.clearFaults l) 36 (fun _ => clearFaultsRefusal l)
    (fun t => let u := clearFaultsEffect l t; (u, flagBytes 102 u.condAt))

/-- The checks of SET FAULT MASKS (R161). -/
def faultMasksRefusal (a : List FaultMaskItem) (b : List MaskItem) : Option Refuse :=
  if (a = [] ∧ b = []) ∨ a.any (fun x => decide (namedConds x.cond x.inst = [] ∨ 1 < x.masked)) ∨ b.all (maskItemOk 4) = false then
    some .badArgument
  else none

/-- The effect of SET FAULT MASKS (R161). -/
def faultMasksEffect (a : List FaultMaskItem) (b : List MaskItem) (s : State) : State :=
  s.setFnu { s.fnu with
    mask1 := a.foldl (fun m i => setFlags m (namedConds i.cond i.inst) (decide (i.masked = 1))) s.fnu.mask1,
    mask2 := applyMasks s.fnu.mask2 b }

def execSetFaultMasks (a : List FaultMaskItem) (b : List MaskItem) (s : State) : Host.Outcome State Fault Refusal :=
  s.runRequest (.setFaultMasks a b) 37 (fun _ => faultMasksRefusal a b)
    (fun t =>
      let u := faultMasksEffect a b t
      (u, flagBytes 102 (fun i => u.fnu.mask1.getLsbD i) ++ flagBytes 4 (fun g => u.fnu.mask2.getLsbD g)))

end Sys2Proof.Machine
end

