-- ==== Sys2Proof/Machine/Shelves.lean ====
section
/-! DEFINITION. The events of the shelf ports and the requests of family Shelves (chapter 7, R173). -/

namespace Sys2Proof.Machine

/-! ### Power -/

/-- Fault latches of the ports that a test names are cleared. -/
def State.clearLatches (s : State) (test : Nat → Bool) : State :=
  (List.range 8).foldl (fun t p => if test p then t.clearLatch p else t) s

/-- The effect of SET POWER MODE (R132); here and below, what it makes due at a slot comes after the response (R169). -/
def powerModeEffect (m : PowerMode) (s : State) : State :=
  let s1 := s.setSpc { s.spc with mode := m }
  (if m = .unswitched then s1.clearLatches (fun _ => true) else s1).repowerAll

def execSetPowerMode (m : Nat) (s : State) : Host.Outcome State Fault Refusal :=
  s.runWork (.setPowerMode m) 25 (fun _ => if (modeOf? m).isNone then some .badArgument else none)
    (fun t =>
      let u := match modeOf? m with | some x => powerModeEffect x t | none => t
      (u, u.powerBytes))

/-- The effect of POWER SHELVES (R133). -/
def powerShelvesEffect (on : Bool) (s : State) : State :=
  let s1 := s.setSpc { s.spc with globalSwitch := on }
  (if on then s1.clearLatches s.obeys else s1).repowerAll

def execPowerShelves (v : Nat) (s : State) : Host.Outcome State Fault Refusal :=
  s.runWork (.powerShelves v) 26 (fun _ => if 1 < v then some .badArgument else none)
    (fun t => let u := powerShelvesEffect (decide (v = 1)) t; (u, u.powerBytes))

/-- The effect of POWER PORT (R134). -/
def powerPortEffect (p : Nat) (on follow : Bool) (s : State) : State :=
  let s1 := s.setPort p { s.port p with switch := on, follow := follow }
  if s.spc.mode = .individual then
    (if s1.demand p then s1.clearLatch p else s1).repower p
  else s1

def execPowerPort (p v f : Nat) (s : State) : Host.Outcome State Fault Refusal :=
  s.runWork (.powerPort p v f) 27 (fun _ => if 7 < p ∨ 1 < v ∨ 1 < f then some .badArgument else none)
    (fun t => let u := powerPortEffect p (decide (v = 1)) (decide (f = 1)) t; (u, u.powerBytes))

/-- The effect of RESET SHELF PORT (R142). -/
def resetShelfPortEffect (p : Nat) (s : State) : State :=
  let x := s.port p
  if x.output then s.move p x.powered
  else if x.state = .faulted then s.enter p { x with state := .off, cause := none }
  else s

def execResetShelfPort (p : Nat) (s : State) : Host.Outcome State Fault Refusal :=
  s.runWork (.resetShelfPort p) 28 (fun _ => if 7 < p then some .badArgument else none)
    (fun t => let u := resetShelfPortEffect p t; (u, [portStateCode (u.port p).state]))

def execReadShelf (p : Nat) (s : State) : Host.Outcome State Fault Refusal :=
  s.runRequest (.readShelf p) 29 (fun _ => if 7 < p then some .badArgument else none) (fun t => (t, t.shelfPortBytes p))

/-- The effect of SET FRAGMENT TIMEOUT (R173). -/
def fragmentTimeoutEffect (x : Option Nat) (s : State) : State :=
  s.setFre { s.fre with timeout := tuned (clamp 1 60) x s.fre.timeout }

def execSetFragmentTimeout (x : Option Nat) (s : State) : Host.Outcome State Fault Refusal :=
  s.runRequest (.setFragmentTimeout x) 30 (fun _ => none)
    (fun t => let u := fragmentTimeoutEffect x t; (u, le1 u.fre.timeout))

/-- A current fault reaches a port whose input was not asserted (R135). -/
def State.currentFault (s : State) (p : Nat) : State :=
  let x := s.port p
  if x.faultInput then s
  else
    let s1 := s.setPort p { x with faultInput := true }
    if s.resetn = false ∧ x.output then (s1.trip p).settle else s1

/-- The input's level is followed whatever RESETn does; the event itself is taken outside RESETn (R135, R177; log 15). -/
def execCurrentFault (p : Fin 8) (s : State) : Host.Outcome State Fault Refusal := .next (s.currentFault p.val)

/-- The current-fault input of a port is no longer asserted (R135). -/
def execCurrentFaultDeassert (p : Fin 8) (s : State) : Host.Outcome State Fault Refusal :=
  .next (s.setPort p.val { s.port p.val with faultInput := false })

/-! ### Bring-up and discovery -/

/-- The settle timer of a port in POWERING expires: LINKING, the inventory request, the link timer (R136, R137). -/
def State.settleExpires (s : State) (p : Nat) : State :=
  let x := s.port p
  if x.state = .powering ∧ x.settle.isSome then
    (s.enter p { x with state := .linking, settle := none, link := some 10000 }).sendShelf p .inventoryRequest
  else s

def execSettleTimerExpiry (p : Fin 8) (s : State) : Host.Outcome State Fault Refusal := s.event (fun t => t.settleExpires p.val)

/-- The link timer of a port in LINKING expires (R137). -/
def State.linkExpires (s : State) (p : Nat) : State :=
  let x := s.port p
  if x.state = .linking ∧ x.link.isSome then
    (s.enter p { x with state := .faulted, cause := some .linkTimeout, link := none }).setPortCond .linkTimeout p
  else s

def execLinkTimerExpiry (p : Fin 8) (s : State) : Host.Outcome State Fault Refusal := s.event (fun t => t.linkExpires p.val)

/-- An inventory report (R137 to R139): 24 entries, each ABSENT or PRESENT, or it is discarded. In LINKING it is the inventory the port
waits for; in ONLINE the rule for it is R139's. -/
def State.inventory (s : State) (p : Nat) (es : List SlotEntry) : State :=
  let x := s.port p
  if es.length ≠ 24 ∨ es.all entryOk = false then s
  else match x.state with
    | .linking => (s.takeInventory p 0 es).enter p { x with state := .online, link := none }
    | .online => (s.slotChanges p 0 es).settle
    | _ => s

def execInventoryReport (p : Fin 8) (es : List SlotEntry) (s : State) : Host.Outcome State Fault Refusal :=
  s.event (fun t => t.inventory p.val es)

/-- A slot-change report (R139). -/
def State.driveReport (s : State) (p : Nat) (d : Byte) (e : SlotEntry) : State :=
  if (s.port p).state = .online ∧ d.toNat ≤ 23 ∧ entryOk e then (s.slotChange p d.toNat e).settle else s

def execSlotChangeReport (p : Fin 8) (d : Byte) (e : SlotEntry) (s : State) : Host.Outcome State Fault Refusal :=
  s.event (fun t => t.driveReport p.val d e)

/-- The shelf link of a port in ONLINE is lost (R140). -/
def State.linkLost (s : State) (p : Nat) : State :=
  let x := s.port p
  if x.state = .online then
    ((s.setPortCond .linkLoss p).move p { x with state := .faulted, cause := some .linkLoss }).settle
  else s

def execShelfLinkLoss (p : Fin 8) (s : State) : Host.Outcome State Fault Refusal := s.event (fun t => t.linkLost p.val)

/-! ### Completions and timers -/

/-- A completion record arrives on a port (R144). -/
def State.completionRecord (s : State) (p : Nat) (r : CompletionRecord) : State :=
  if (s.port p).state = .online then (s.takeRecord p r).settle else s

def execShelfCompletionRecord (p : Fin 8) (r : CompletionRecord) (s : State) : Host.Outcome State Fault Refusal :=
  s.event (fun t => t.completionRecord p.val r)

/-- The timer of a drawn fragment expires (R46). -/
def State.fragmentExpires (s : State) (n : Nat) : State :=
  match s.frag n with
  | some f => ((s.setPortCond .fragmentTimeout f.port).completeFrag n .timeout []).settle
  | none => s

def execFragmentTimerExpiry (n : Fin 4096) (s : State) : Host.Outcome State Fault Refusal := s.event (fun t => t.fragmentExpires n.val)

/-- The timer of an outstanding lane fragment expires (R83). -/
def State.laneFragmentExpires (s : State) (l piece : Nat) : State :=
  match (s.lane l).frags.find? (fun f => decide (f.piece = piece)) with
  | some f => ((s.setPortCond .fragmentTimeout f.port).completeLaneFrag l f .timeout []).settle
  | none => s

def execLaneFragmentTimerExpiry (l : Fin 4) (piece : Fin 64) (s : State) : Host.Outcome State Fault Refusal :=
  s.event (fun t => t.laneFragmentExpires l.val piece.val)

/-- The timer of a target flush fragment expires (R68, R70). -/
def State.flushFragmentExpires (s : State) (i : Nat) (seq : Byte) (p : Nat) : State :=
  match s.mgc.flushFrags.find? (fun f => decide (f.slot = i ∧ f.seq = seq ∧ f.port = p)) with
  | some f => ((s.setPortCond .fragmentTimeout p).completeFlush f .timeout).settle
  | none => s

def execFlushFragmentTimerExpiry (i : Fin 4) (seq : Byte) (p : Fin 8) (s : State) : Host.Outcome State Fault Refusal :=
  s.event (fun t => t.flushFragmentExpires i.val seq p.val)

end Sys2Proof.Machine
end

