-- ==== Sys2Proof/Machine/Tables.lean ====
section
/-! DEFINITION. The requests on tables (10.3, family Tables) and GROW VOLUME: groups, volumes, extents, initiators. -/

namespace Sys2Proof.Machine

/-! ### Groups -/

/-- The checks of LOAD GROUP (R14). -/
def loadGroupRefusal (g u w b : Nat) (ms : List MemberArg) (s : State) : Option Refuse :=
  if 255 < g ∨ StripeUnit.ofNat? u = none ∨ w < 1 ∨ 32 < w ∨ b < 1 ∨ 4096 < b ∨ ms.length ≠ w then some .badArgument
  else if ms.any (fun m => decide (7 < m.port ∨ 23 < m.drive ∨ 2 ^ 48 ≤ m.base)) ∨ ¬ (ms.map (fun m => (m.port, m.drive))).Nodup then
    some .badArgument
  else match s.group g with
    | some gr => if gr.active then some .state else none
    | none => none

/-- The effect of LOAD GROUP (R14). -/
def loadGroupEffect (g u b : Nat) (ms : List MemberArg) (s : State) : State :=
  match StripeUnit.ofNat? u with
  | some unit =>
    s.setGroup g { active := false, layout :=
      { unit := unit, bands := b, members := ms.map (fun m => { port := m.port, drive := m.drive, base := m.base }) } }
  | none => s

def execLoadGroup (g u w b : Nat) (ms : List MemberArg) (s : State) : Host.Outcome State Fault Refusal :=
  s.runRequest (.loadGroup g u w b ms) 1 (loadGroupRefusal g u w b ms) (fun t => (loadGroupEffect g u b ms t, []))

/-- Two member ranges overlap on one drive (R15). -/
def Layout.overlaps (a b : Layout) : Bool :=
  a.members.any (fun m => b.members.any (fun n =>
    decide (m.port = n.port ∧ m.drive = n.drive ∧ m.base < b.memberEnd n ∧ n.base < a.memberEnd m)))

/-- The checks of ACTIVATE GROUP (R15). -/
def activateGroupRefusal (g : Nat) (s : State) : Option Refuse :=
  if 255 < g then some .badArgument
  else match s.group g with
    | none => some .state
    | some gr =>
      if gr.active then some .state
      else if gr.layout.members.any (fun m => !s.drivePresent m.port m.drive) then some .state
      else if gr.layout.members.any (fun m => decide ((s.drive m.port m.drive).capacity < gr.layout.memberEnd m)) then some .badArgument
      else if s.lmu.groups.any (fun h => decide (h.1 ≠ g) && h.2.active && gr.layout.overlaps h.2.layout) then some .conflict
      else none

/-- The bands of a group leave the occupancy map: all FREE (R15). -/
def State.freeBands (s : State) (g : Nat) : State :=
  s.setLmu { s.lmu with bands := s.lmu.bands.filter (fun b => decide (b.1 / 65536 ≠ g)) }

/-- The effect of ACTIVATE GROUP (R15). -/
def activateGroupEffect (g : Nat) (s : State) : State :=
  match s.group g with
  | some gr => (s.setGroup g { gr with active := true }).freeBands g
  | none => s

def execActivateGroup (g : Nat) (s : State) : Host.Outcome State Fault Refusal :=
  s.runRequest (.activateGroup g) 2 (activateGroupRefusal g) (fun t => (activateGroupEffect g t, []))

/-- The bands of a group that are held (R17). -/
def State.heldBands (s : State) (g : Nat) : Nat := s.lmu.bands.countP (fun b => decide (b.1 / 65536 = g))

/-- The checks of DEACTIVATE GROUP (R16). -/
def deactivateGroupRefusal (g : Nat) (s : State) : Option Refuse :=
  if 255 < g then some .badArgument
  else match s.group g with
    | none => some .state
    | some gr => if gr.active = false then some .state else if s.heldBands g ≠ 0 then some .state else none

/-- The effect of DEACTIVATE GROUP (R16). -/
def deactivateGroupEffect (g : Nat) (s : State) : State :=
  match s.group g with
  | some gr => s.setGroup g { gr with active := false }
  | none => s

def execDeactivateGroup (g : Nat) (s : State) : Host.Outcome State Fault Refusal :=
  s.runRequest (.deactivateGroup g) 3 (deactivateGroupRefusal g) (fun t => (deactivateGroupEffect g t, []))

/-- The checks of READ GROUP (R17). -/
def readGroupRefusal (g f k : Nat) (s : State) : Option Refuse :=
  let bands := match s.group g with | some gr => if gr.active then some gr.layout.bands else none | none => none
  if 255 < g ∨ 256 < k then some .badArgument
  else if k = 0 then none
  else match bands with
    | none => some .badArgument
    | some b => if b < f + k then some .badArgument else none

/-- The body of READ GROUP (R17). -/
def readGroupBody (g f k : Nat) (s : State) : List Byte :=
  groupBytes g (s.group g)
    ++ (match s.group g with
        | some gr => le2 gr.layout.unitsPerExtent ++ le2 gr.layout.rows ++ le4 gr.layout.span
        | none => le2 0 ++ le2 0 ++ le4 0)
    ++ le2 (s.heldBands g) ++ (List.range k).flatMap (fun j => holderBytes (s.holder ⟨g, f + j⟩))

def execReadGroup (g f k : Nat) (s : State) : Host.Outcome State Fault Refusal :=
  s.runRequest (.readGroup g f k) 4 (readGroupRefusal g f k) (fun t => (t, readGroupBody g f k t))

/-! ### Volumes -/

/-- A region overlaps that of another loaded volume (R2). -/
def State.regionTaken (s : State) (v m n : Nat) : Bool :=
  s.lmu.volumes.any (fun x => decide (x.1 ≠ v ∧ x.2.mapBase < m + n ∧ m < x.2.mapBase + x.2.reserved))

/-- The checks of LOAD VOLUME (R2). -/
def loadVolumeRefusal (v m n d : Nat) (s : State) : Option Refuse :=
  if 15 < v ∨ 3 < d then some .badArgument
  else if n < 1 ∨ 16384 < n ∨ 65536 < m + n then some .badArgument
  else
    let overlap := if s.regionTaken v m n then some Refuse.conflict else none
    match s.volume v with
    | some x =>
      if x.state = .online then some .state
      else if 0 < x.count ∧ m ≠ x.mapBase then some .state
      else if n < x.count then some .limit
      else overlap
    | none => overlap

/-- The effect of LOAD VOLUME (R2). -/
def loadVolumeEffect (v m n d : Nat) (s : State) : State :=
  let x := match s.volume v with
    | some x => { x with mapBase := m, reserved := n }
    | none => { state := .offline, mapBase := m, reserved := n, count := 0, divertDiscard := false, divertFlush := false }
  s.setVolume v (x.withDivert d)

def execLoadVolume (v m n d : Nat) (s : State) : Host.Outcome State Fault Refusal :=
  s.runRequest (.loadVolume v m n d) 5 (loadVolumeRefusal v m n d) (fun t => (loadVolumeEffect v m n d t, []))

/-- Some slot that is not FREE names a volume (R3). -/
def State.slotOnVolume (s : State) (v : Nat) : Bool :=
  (List.range 4).any (fun i => match (s.slot i).claim with | some c => decide (c.volume = v) | none => false)

/-- The checks of SET VOLUME STATE (R3); an unknown state is a bad argument (R179), looked at before whether the volume is loaded, an order
the spec does not state (DESIGN CHOICE, log 29). -/
def setVolumeStateRefusal (v st : Nat) (s : State) : Option Refuse :=
  if 15 < v ∨ 1 < st then some .badArgument
  else match s.volume v with
    | none => some .noSuch
    | some x => if st = 0 ∧ x.state = .online ∧ s.slotOnVolume v then some .state else none

/-- The effect of SET VOLUME STATE (R3): 0 is OFFLINE, 1 ONLINE. -/
def setVolumeStateEffect (v st : Nat) (s : State) : State :=
  match s.volume v with
  | some x => s.setVolume v { x with state := if st = 0 then .offline else .online }
  | none => s

def execSetVolumeState (v st : Nat) (s : State) : Host.Outcome State Fault Refusal :=
  s.runRequest (.setVolumeState v st) 6 (setVolumeStateRefusal v st) (fun t => (setVolumeStateEffect v st t, []))

/-- FENCED sections that hold a record in use of a volume (R4). -/
def State.fencedSections (s : State) (x : Volume) : Nat :=
  if x.count = 0 then 0 else (sectionsOf x.mapBase x.count).countP (fun k => (s.sect k).fenced)

/-- The body of READ VOLUME (R4). -/
def readVolumeBody (v : Nat) (s : State) : List Byte :=
  match s.volume v with
  | some x =>
    [1, if x.state = .online then 1 else 0] ++ le2 x.mapBase ++ le2 x.reserved ++ le2 x.count ++ leBytes 8 x.capacity ++ [divertByte x]
      ++ le1 (s.fencedSections x)
  | none => [0]

def execReadVolume (v : Nat) (s : State) : Host.Outcome State Fault Refusal :=
  s.runRequest (.readVolume v) 7 (fun _ => if 15 < v then some .badArgument else none) (fun t => (t, readVolumeBody v t))

/-! ### Extents -/

/-- A location exists: its group is ACTIVE and its band below the band count (R10, R101). -/
def State.locationOk (s : State) (l : Loc) : Bool :=
  match s.group l.group with
  | some gr => gr.active && decide (l.band < gr.layout.bands)
  | none => false

/-- The location a listed record names (R10). -/
def argLoc (x : ExtentArg) : Loc := ⟨x.group, x.band⟩

/-- The record a listed record writes (R10); state 0 is ZERO, 1 PLAIN. -/
def argRec (x : ExtentArg) : ExtRec :=
  { group := BitVec.ofNat 8 x.group, band := BitVec.ofNat 16 x.band, state := if x.state = 0 then .zero else .plain, slot := none,
    gen := x.gen, tag := x.tag }

/-- Record index `j` may not be overwritten: check 6 of R10. -/
def State.pinned (s : State) (j : Nat) : Bool :=
  (!s.fencedAt j && decide ((s.recAt j).state = .moving ∨ (s.recAt j).state = .zeroing))
    || (List.range 4).any (fun i =>
      match (s.slot i).claim with
      | some c => decide (c.index = j ∧ (c.state = .copying ∨ c.state = .cutover ∨ c.state = .zeroing ∨ c.state = .ending))
      | none => false)

/-- The checks of LOAD EXTENTS (R10); a state other than ZERO and PLAIN fails check 5. -/
def loadExtentsRefusal (v f : Nat) (rs : List ExtentArg) (s : State) : Option Refuse :=
  let k := rs.length
  if 15 < v ∨ k < 1 ∨ 1024 < k then some .badArgument
  else match s.volume v with
    | none => some .noSuch
    | some x =>
      let base := x.mapBase + f
      let idx := (List.range k).map (base + ·)
      if x.reserved < f + k then some .limit
      else if x.count < f then some .badArgument
      else if x.state = .online ∧ (idx.any (fun j => !s.fencedAt j) ∨ x.count < f + k) then some .state
      else if rs.any (fun r => decide (1 < r.state) || !s.locationOk (argLoc r)) then some .badArgument
      else if idx.any s.pinned then some .state
      else if rs.any (fun r => ((s.dropRecordHolds base k).holder (argLoc r)).isSome) ∨ ¬ (rs.map argLoc).Nodup then some .conflict
      else none

/-- The effect of LOAD EXTENTS (R10, R152). -/
def loadExtentsEffect (v f : Nat) (rs : List ExtentArg) (s : State) : State :=
  match s.volume v with
  | some x =>
    let k := rs.length
    let base := x.mapBase + f
    let s1 := ((s.dropRecordHolds base k).writeRun base (rs.map argRec)).holdRun base (rs.map argLoc)
    let s2 := if x.count < f + k then (s1.setVolume v { x with count := f + k }).flagGrowth v else s1
    s2.reload base k (sectionsOf base k)
  | none => s

def execLoadExtents (v f : Nat) (rs : List ExtentArg) (s : State) : Host.Outcome State Fault Refusal :=
  s.runRequest (.loadExtents v f rs) 8 (loadExtentsRefusal v f rs) (fun t => (loadExtentsEffect v f rs t, []))

/-- The checks of READ EXTENTS (R11). -/
def readExtentsRefusal (v f k : Nat) (s : State) : Option Refuse :=
  if 15 < v ∨ k < 1 ∨ 1024 < k then some .badArgument
  else match s.volume v with
    | none => some .noSuch
    | some x => if x.count < f + k then some .limit else none

/-- The body of READ EXTENTS (R11). -/
def readExtentsBody (v f k : Nat) (s : State) : List Byte :=
  match s.volume v with
  | some x => (List.range k).flatMap (fun j => extBytes (s.recAt (x.mapBase + f + j)) (s.fencedAt (x.mapBase + f + j)))
  | none => []

def execReadExtents (v f k : Nat) (s : State) : Host.Outcome State Fault Refusal :=
  s.runRequest (.readExtents v f k) 9 (readExtentsRefusal v f k) (fun t => (t, readExtentsBody v f k t))

/-! ### Initiators -/

/-- The checks of LOAD INITIATOR (R31); sixteen rights are given (R179). R31 does not place an unknown MANAGE code, which R179 refuses with
BAD-ARGUMENT: it is looked at with check 1, before LIMIT (DESIGN CHOICE, log 29). -/
def loadInitiatorRefusal (id : BitVec 32) (p : Nat) (rs : List Nat) (m : Nat) (s : State) : Option Refuse :=
  match portOf? p with
  | none => some .badArgument
  | some hp =>
    if rs.any (fun r => decide (2 < r)) ∨ rs.length ≠ 16 ∨ 1 < m then some .badArgument
    else if (s.initiatorOf id hp).isNone ∧ (Tbl.lowestFree s.cau.initiators 64 0).isNone then some .limit
    else none

/-- The pending flags that stay: those of volumes with a right (R31). -/
def keptFlags (flags : BitVec 16) (rights : List Right) : BitVec 16 :=
  (List.range 16).foldl (fun f v => if rights.getD v .none = .none then setFlag f v false else f) flags

/-- The effect of LOAD INITIATOR (R31, R174): an entry for the pair is rewritten, else the lowest free one is taken. -/
def loadInitiatorEffect (id : BitVec 32) (p : Nat) (rs : List Nat) (m : Nat) (s : State) : State :=
  match portOf? p with
  | none => s
  | some hp =>
    let rights := rs.map rightOf
    match s.initiatorOf id hp with
    | some e =>
      let e1 : Initiator := { e.2 with rights := rights, manage := decide (m = 1), sizePending := keptFlags e.2.sizePending rights }
      s.setCau { s.cau with initiators := Tbl.ins s.cau.initiators e.1 e1 }
    | none =>
      match Tbl.lowestFree s.cau.initiators 64 0 with
      | some n =>
        let e1 : Initiator := { id := id, port := hp, rights := rights, manage := decide (m = 1), sizePending := 0 }
        s.setCau { s.cau with initiators := Tbl.ins s.cau.initiators n e1 }
      | none => s

def execLoadInitiator (id : BitVec 32) (p : Nat) (rs : List Nat) (m : Nat) (s : State) : Host.Outcome State Fault Refusal :=
  s.runRequest (.loadInitiator id p rs m) 10 (loadInitiatorRefusal id p rs m) (fun t => (loadInitiatorEffect id p rs m t, []))

/-- The checks of DROP INITIATOR (R32); a port that names none is a bad argument (R179), looked at before whether the pair has an entry
(DESIGN CHOICE, log 29). -/
def dropInitiatorRefusal (id : BitVec 32) (p : Nat) (s : State) : Option Refuse :=
  match portOf? p with
  | none => some .badArgument
  | some hp => if (s.initiatorOf id hp).isNone then some .noSuch else none

/-- The effect of DROP INITIATOR (R32). -/
def dropInitiatorEffect (id : BitVec 32) (p : Nat) (s : State) : State :=
  match portOf? p with
  | none => s
  | some hp =>
    match s.initiatorOf id hp with
    | some e => s.setCau { s.cau with initiators := Tbl.del s.cau.initiators e.1 }
    | none => s

def execDropInitiator (id : BitVec 32) (p : Nat) (s : State) : Host.Outcome State Fault Refusal :=
  s.runRequest (.dropInitiator id p) 11 (dropInitiatorRefusal id p) (fun t => (dropInitiatorEffect id p t, []))

/-- The checks of READ INITIATORS (R174). -/
def readInitiatorsRefusal (f k : Nat) : Option Refuse :=
  if 63 < f ∨ k < 1 ∨ 64 < k ∨ 64 < f + k then some .badArgument else none

/-- The body of READ INITIATORS (R174). -/
def readInitiatorsBody (f k : Nat) (s : State) : List Byte :=
  (List.range k).flatMap (fun j => initiatorBytes (Tbl.find s.cau.initiators (f + j)))
    ++ le1 s.cau.initiators.length ++ le1 (s.cau.initiators.countP (fun e => e.2.manage))

def execReadInitiators (f k : Nat) (s : State) : Host.Outcome State Fault Refusal :=
  s.runRequest (.readInitiators f k) 12 (fun _ => readInitiatorsRefusal f k) (fun t => (t, readInitiatorsBody f k t))

/-! ### Growth -/

/-- A location as GROW VOLUME lists it. -/
def locOf (l : Nat × Nat) : Loc := ⟨l.1, l.2⟩

/-- The checks of GROW VOLUME (R101). -/
def growVolumeRefusal (v : Nat) (ls : List (Nat × Nat)) (s : State) : Option Refuse :=
  let n := ls.length
  if 15 < v ∨ n < 1 ∨ 256 < n ∨ ls.any (fun l => decide (255 < l.1)) then some .badArgument
  else match s.volume v with
    | none => some .noSuch
    | some x =>
      if x.reserved < x.count + n then some .limit
      else if ls.any (fun l => !s.locationOk (locOf l)) then some .badArgument
      else if ls.any (fun l => (s.holder (locOf l)).isSome) ∨ ¬ (ls.map locOf).Nodup then some .conflict
      else if (sectionsOf (x.mapBase + x.count) n).any (fun k => (s.sect k).fenced) then some .fenced
      else none

/-- The record GROW VOLUME writes at a location (R102). -/
def newRec (l : Nat × Nat) : ExtRec :=
  { group := BitVec.ofNat 8 l.1, band := BitVec.ofNat 16 l.2, state := .zero, slot := none, gen := 0, tag := 0 }

/-- The effect of GROW VOLUME (R102). -/
def growVolumeEffect (v : Nat) (ls : List (Nat × Nat)) (s : State) : State :=
  match s.volume v with
  | some x =>
    let base := x.mapBase + x.count
    (((s.writeRun base (ls.map newRec)).holdRun base (ls.map locOf)).setVolume v { x with count := x.count + ls.length }).flagGrowth v
  | none => s

/-- The body of GROW VOLUME (R102), as the volume stood before. -/
def growVolumeBody (v n : Nat) (s : State) : List Byte :=
  match s.volume v with
  | some x => le2 x.count ++ le2 (x.count + n) ++ leBytes 8 ((x.count + n) * extentBlocks)
  | none => []

def execGrowVolume (v : Nat) (ls : List (Nat × Nat)) (s : State) : Host.Outcome State Fault Refusal :=
  s.runRequest (.growVolume v ls) 13 (growVolumeRefusal v ls) (fun t => (growVolumeEffect v ls t, growVolumeBody v ls.length t))

end Sys2Proof.Machine
end

