-- ==== Sys2Proof/Machine/Dispatch.lean ====
section
/-! DEFINITION. The meaning of each command: one arm per row of spec/opcode_table.json. -/

namespace Sys2Proof.Machine

/-- What a command does to the state, its queue of commands apart. -/
def exec (i : Instr) (s : State) : Host.Outcome State Fault Refusal :=
  match i with
  | .commandRecord port record => Sys2Proof.Machine.execCommandRecord port record s
  | .takeQueueHead port => Sys2Proof.Machine.execTakeQueueHead port s
  | .serveReentry => Sys2Proof.Machine.execServeReentry s
  | .hostPortReset port => Sys2Proof.Machine.execHostPortReset port s
  | .shelfCompletionRecord port record => Sys2Proof.Machine.execShelfCompletionRecord port record s
  | .fragmentTimerExpiry number => Sys2Proof.Machine.execFragmentTimerExpiry number s
  | .laneFragmentTimerExpiry lane piece => Sys2Proof.Machine.execLaneFragmentTimerExpiry lane piece s
  | .flushFragmentTimerExpiry slot seq port => Sys2Proof.Machine.execFlushFragmentTimerExpiry slot seq port s
  | .laneGrant => Sys2Proof.Machine.execLaneGrant s
  | .takeGrant slot => Sys2Proof.Machine.execTakeGrant slot s
  | .copyCompletion lane => Sys2Proof.Machine.execCopyCompletion lane s
  | .cutoverTimerExpiry slot => Sys2Proof.Machine.execCutoverTimerExpiry slot s
  | .portExitReport slot port => Sys2Proof.Machine.execPortExitReport slot port s
  | .fenceReport slot => Sys2Proof.Machine.execFenceReport slot s
  | .diversionTimerExpiry entry => Sys2Proof.Machine.execDiversionTimerExpiry entry s
  | .windowEnd => Sys2Proof.Machine.execWindowEnd s
  | .scrubVisit => Sys2Proof.Machine.execScrubVisit s
  | .currentFault port => Sys2Proof.Machine.execCurrentFault port s
  | .settleTimerExpiry port => Sys2Proof.Machine.execSettleTimerExpiry port s
  | .inventoryReport port entries => Sys2Proof.Machine.execInventoryReport port entries s
  | .linkTimerExpiry port => Sys2Proof.Machine.execLinkTimerExpiry port s
  | .slotChangeReport port drive entry => Sys2Proof.Machine.execSlotChangeReport port drive entry s
  | .shelfLinkLoss port => Sys2Proof.Machine.execShelfLinkLoss port s
  | .resetnAssert => Sys2Proof.Machine.execResetnAssert s
  | .resetnRelease => Sys2Proof.Machine.execResetnRelease s
  | .loadGroup group unit width bands members => Sys2Proof.Machine.execLoadGroup group unit width bands members s
  | .activateGroup group => Sys2Proof.Machine.execActivateGroup group s
  | .deactivateGroup group => Sys2Proof.Machine.execDeactivateGroup group s
  | .readGroup group first count => Sys2Proof.Machine.execReadGroup group first count s
  | .loadVolume volume mapBase reserved divert => Sys2Proof.Machine.execLoadVolume volume mapBase reserved divert s
  | .setVolumeState volume state => Sys2Proof.Machine.execSetVolumeState volume state s
  | .readVolume volume => Sys2Proof.Machine.execReadVolume volume s
  | .loadExtents volume first records => Sys2Proof.Machine.execLoadExtents volume first records s
  | .readExtents volume first count => Sys2Proof.Machine.execReadExtents volume first count s
  | .loadInitiator id port rights manage => Sys2Proof.Machine.execLoadInitiator id port rights manage s
  | .dropInitiator id port => Sys2Proof.Machine.execDropInitiator id port s
  | .readInitiators first count => Sys2Proof.Machine.execReadInitiators first count s
  | .growVolume volume locations => Sys2Proof.Machine.execGrowVolume volume locations s
  | .migrate volume extent group band gen => Sys2Proof.Machine.execMigrate volume extent group band gen s
  | .abortMigration volume extent gen => Sys2Proof.Machine.execAbortMigration volume extent gen s
  | .pauseSlot slot => Sys2Proof.Machine.execPauseSlot slot s
  | .resumeSlot slot => Sys2Proof.Machine.execResumeSlot slot s
  | .readSlot slot => Sys2Proof.Machine.execReadSlot slot s
  | .setCopyPolicy lanes mode threshold limit timeout => Sys2Proof.Machine.execSetCopyPolicy lanes mode threshold limit timeout s
  | .setGovernor window level => Sys2Proof.Machine.execSetGovernor window level s
  | .readSample => Sys2Proof.Machine.execReadSample s
  | .setDivert part timeout => Sys2Proof.Machine.execSetDivert part timeout s
  | .readDiversions => Sys2Proof.Machine.execReadDiversions s
  | .resolve entry use outcome => Sys2Proof.Machine.execResolve entry use outcome s
  | .setPowerMode mode => Sys2Proof.Machine.execSetPowerMode mode s
  | .powerShelves value => Sys2Proof.Machine.execPowerShelves value s
  | .powerPort port value follow => Sys2Proof.Machine.execPowerPort port value follow s
  | .resetShelfPort port => Sys2Proof.Machine.execResetShelfPort port s
  | .readShelf port => Sys2Proof.Machine.execReadShelf port s
  | .setFragmentTimeout timeout => Sys2Proof.Machine.execSetFragmentTimeout timeout s
  | .setScrub interval => Sys2Proof.Machine.execSetScrub interval s
  | .checkDiagnostic sect pattern => Sys2Proof.Machine.execCheckDiagnostic sect pattern s
  | .readNotices => Sys2Proof.Machine.execReadNotices s
  | .setNoticeMask items => Sys2Proof.Machine.execSetNoticeMask items s
  | .readFaults => Sys2Proof.Machine.execReadFaults s
  | .clearFaults items => Sys2Proof.Machine.execClearFaults items s
  | .setFaultMasks first second => Sys2Proof.Machine.execSetFaultMasks first second s
  | .resetBridge => Sys2Proof.Machine.execResetBridge s
  | .mapMemoryFault index record => Sys2Proof.Machine.execMapMemoryFault index record s
  | .currentFaultDeassert port => Sys2Proof.Machine.execCurrentFaultDeassert port s
  | .unknownRequestCode code => Sys2Proof.Machine.execUnknownRequestCode code s

end Sys2Proof.Machine
end

