-- ==== Sys2Proof/Safety.lean ====
section
/-! DEFINITION. What a sound state is, in the terms the claims use: one predicate for each promise the spec makes of every state, and the
commands that may write each kind of state. -/

namespace Sys2Proof.Machine

/-- Every table that the state holds is in its one canonical form: the numbers rise, and where unlisted numbers hold a value (an empty
record, a count of 0, a DIRTY chunk, an ABSENT drive with capacity and change count 0) that value is not listed. The tables are those of
each block, and within their entries the data gathered for an ISSUED command, the write counts and chunk states of a slot, and the chunk
buffer of a lane. -/
def State.TablesInOrder (s : State) : Prop :=
  Tbl.canonical emptyRec s.lmu.extents ∧ Tbl.wf s.lmu.volumes ∧ Tbl.wf s.lmu.groups ∧ Tbl.wf s.lmu.bands ∧ Tbl.wf s.cau.initiators ∧
  Tbl.wf s.fre.commands ∧ (∀ q ∈ s.fre.commands, Tbl.wf (match q.2.state with | .issued i => i.gathered | _ => [])) ∧
  Tbl.wf s.fre.frags ∧ Tbl.canonical 0 s.fre.useCounts ∧
  Tbl.wf s.mgc.slots ∧ (∀ q ∈ s.mgc.slots, Tbl.canonical 0 q.2.writeCounts ∧ ∀ c ∈ q.2.claim, Tbl.canonical .dirty c.chunks) ∧
  Tbl.wf s.cpm.lanes ∧ (∀ q ∈ s.cpm.lanes, Tbl.wf q.2.buffer) ∧
  Tbl.wf s.acg.hostCounts ∧ Tbl.wf s.acg.copyCounts ∧ Tbl.wf s.acg.sample.host ∧ Tbl.wf s.acg.sample.copy ∧
  Tbl.wf s.dvq.entries ∧ Tbl.canonical 0 s.dvq.useCounts ∧ Tbl.wf s.spc.ports ∧ Tbl.canonical Drive.initial s.spc.drives ∧
  Tbl.wf s.msb.sections

/-- Every UNFENCED section's stored check is that of its records (R148). -/
def State.ChecksAgree (s : State) : Prop :=
  ∀ k, k < 64 → (s.sect k).fenced = false → (s.sect k).check = sectionCheck s.lmu.extents k

/-- The ranges of R1 hold of every loaded volume, and the regions of two volumes are disjoint (R2). -/
def State.VolumesSound (s : State) : Prop :=
  (∀ v x, s.volume v = some x →
    v ≤ 15 ∧ 1 ≤ x.reserved ∧ x.reserved ≤ 16384 ∧ x.mapBase + x.reserved ≤ 65536 ∧ x.count ≤ x.reserved) ∧
  (∀ v w x y, v ≠ w → s.volume v = some x → s.volume w = some y →
    x.mapBase + x.reserved ≤ y.mapBase ∨ y.mapBase + y.reserved ≤ x.mapBase)

/-- The member ranges of two ACTIVE groups never overlap on the same drive (R15). -/
def State.GroupsSound (s : State) : Prop :=
  ∀ g h a b, g ≠ h → s.group g = some a → s.group h = some b → a.active = true → b.active = true →
    ∀ m ∈ a.layout.members, ∀ n ∈ b.layout.members, m.port = n.port → m.drive = n.drive →
      a.layout.memberEnd m ≤ n.base ∨ b.layout.memberEnd n ≤ m.base

/-- The queues are within their capacities: R27, R67, R168. -/
def State.QueuesBounded (s : State) : Prop :=
  (∀ p, (s.queue p).length ≤ 128) ∧ s.mgu.load ≤ 8 ∧
    ∀ i c, (s.slot i).claim = some c → c.hold.length ≤ 32

/-- Every tuning value is in its range (R172). -/
def State.TuningInRange (s : State) : Prop :=
  (1 ≤ s.cpm.laneCount ∧ s.cpm.laneCount ≤ 4) ∧ s.mgc.threshold ≤ 64 ∧ (1 ≤ s.mgc.passLimit ∧ s.mgc.passLimit ≤ 15) ∧
  (10 ≤ s.mgc.cutoverTimeout ∧ s.mgc.cutoverTimeout ≤ 2550 ∧ s.mgc.cutoverTimeout % 10 = 0) ∧
  (10 ≤ s.acg.windowLength ∧ s.acg.windowLength ≤ 2550 ∧ s.acg.windowLength % 10 = 0) ∧ s.acg.busyLevel ≤ 65535 ∧
  (1 ≤ s.dvq.timeout ∧ s.dvq.timeout ≤ 60) ∧ (1 ≤ s.msb.interval ∧ s.msb.interval ≤ 255) ∧ (1 ≤ s.fre.timeout ∧ s.fre.timeout ≤ 60)

/-- A slot is served by at most one lane (R61, R89). -/
def State.OneLanePerSlot (s : State) : Prop := ∀ i, (s.servingLanes i).length ≤ 1

/-- A slot has at most one chunk in COPYING or STALE (R53). -/
def State.OneBusyChunk (s : State) : Prop :=
  ∀ i c, (s.slot i).claim = some c →
    Tbl.wf c.chunks ∧ (List.range 256).countP (fun k => decide (c.chunk k = .copying ∨ c.chunk k = .stale)) ≤ 1

/-- No two entries in use name the same initiator, entries are numbered 0 to 63, and a size-notice flag stands only for a volume on which
the entry holds a right (R30, R31, R33). -/
def State.InitiatorsSound (s : State) : Prop :=
  Tbl.wf s.cau.initiators ∧
  s.cau.initiators.Pairwise (fun a b => ¬ (a.2.id = b.2.id ∧ a.2.port = b.2.port)) ∧
  ∀ e ∈ s.cau.initiators, e.1 < 64 ∧ ∀ v, v < 16 → e.2.sizePending.getLsbD v = true → e.2.rights.getD v .none ≠ .none

/-- What R129, R130 and R138 say of every shelf port: the output is on exactly when the demand is ON and the latch clear, each state has
the output, cause and timers of its row, and outside ONLINE every drive entry is ABSENT with capacity 0. -/
def State.PortsSound (s : State) : Prop :=
  ∀ p, p < 8 →
    (s.port p).output = (s.demand p && !(s.port p).latch) ∧
    ((s.port p).state = .off → (s.port p).output = false) ∧
    ((s.port p).state = .powering ∨ (s.port p).state = .linking ∨ (s.port p).state = .online → (s.port p).output = true) ∧
    ((s.port p).cause.isSome ↔ (s.port p).state = .faulted) ∧
    ((s.port p).state = .faulted → ((s.port p).output = false ↔ (s.port p).cause = some .powerFault)) ∧
    ((s.port p).settle.isSome ↔ (s.port p).state = .powering) ∧ ((s.port p).link.isSome ↔ (s.port p).state = .linking) ∧
    ((s.port p).state ≠ .online → ∀ d, d < 24 → (s.drive p d).present = false ∧ (s.drive p d).capacity = 0)

/-- A port once its power is worked out again, from its demand and whether the mode is a switched one (R130, R131, R135). -/
def Port.worked (x : Port) (demand switched : Bool) : Port :=
  if demand then
    if x.latch || x.output then x else if x.faultInput && switched then x.powered.tripped else x.powered
  else if x.state = .off then { x with output := false, latch := false }
  else x.unpowered

/-- The place of the one block of a command of length 1 (R22, R43). -/
def State.placeOf (s : State) (v : Volume) (r : CommandRecord) : Place :=
  let x := s.recAt (v.mapBase + r.start.toNat / extentBlocks)
  translate (s.layout x.group.toNat) x.band.toNat (r.start.toNat % extentBlocks)

/-- The migration mark of that one block's fragment: of its slot, record and chunk, where the record is MOVING (R47). -/
def State.markOf (s : State) (v : Volume) (r : CommandRecord) : Option Mark :=
  let idx := v.mapBase + r.start.toNat / extentBlocks
  if (s.recAt idx).state = .moving then
    (s.recAt idx).slot.map (fun i => { slot := i.val, index := idx, chunk := (s.placeOf v r).chunk, write := decide (r.kind ≠ .read) })
  else none

/-- A READ, WRITE or DISCARD of one block that draws a fragment: within the capacity of a loaded volume, in an UNFENCED section, on a record
that is PLAIN, or MOVING by a slot that is not in CUTOVER (a READ: in any state), or ZEROING at a CLEAN chunk; `n` is the lowest free
fragment. -/
def State.OneBlockDraws (s : State) (r : CommandRecord) (v : Volume) (n : Nat) : Prop :=
  let idx := v.mapBase + r.start.toNat / extentBlocks
  hasRange r.kind = true ∧ r.length = 1 ∧ s.volume r.volume.toNat = some v ∧ r.start.toNat < v.capacity ∧ s.fencedAt idx = false ∧
  ((s.recAt idx).state = .plain ∨
    ((s.recAt idx).state = .moving ∧
      (r.kind = .read ∨ ∀ i ∈ (s.recAt idx).slot, ∀ c ∈ (s.slot i.val).claim, c.state ≠ .cutover)) ∨
    ((s.recAt idx).state = .zeroing ∧ s.chunkAt (s.recAt idx) idx (s.placeOf v r).chunk = .clean)) ∧
  Tbl.lowestFree s.fre.frags 4096 0 = some n

/-- Such a command whose drive reads PRESENT. -/
def State.OneBlockReady (s : State) (r : CommandRecord) (v : Volume) (n : Nat) : Prop :=
  s.OneBlockDraws r v n ∧ s.drivePresent (s.placeOf v r).port (s.placeOf v r).drive = true

/-- The fragment that such a command draws (R45, R47). -/
def State.oneFragment (s : State) (e : Nat) (r : CommandRecord) (v : Volume) : Fragment :=
  { owner := some e, kind := fragKindOf r.kind, port := (s.placeOf v r).port, mark := s.markOf v r, timer := s.fre.timeout * 1000,
    addr := some { vbn := r.start.toNat, drive := (s.placeOf v r).drive, dbn := (s.placeOf v r).dbn, count := 1 } }

/-- A chunk's state after a marked write to it begins (R54). -/
def ChunkState.written : ChunkState → ChunkState
  | .dirty => .dirty
  | .copying => .stale
  | .stale => .stale
  | .clean => .dirty

/-- What a creation report does to the slots (R54): a marked read raises the slot's source read count; a marked write raises its chunk's
write count and, at a slot in COPYING or CUTOVER for that record, has the chunk copied again. -/
def State.Reports (s w : State) (mark : Option Mark) : Prop :=
  (mark = none → w.mgc = s.mgc) ∧
  ∀ k ∈ mark,
    (∀ j, j ≠ k.slot → w.slot j = s.slot j) ∧
    (k.write = false → w.slot k.slot = { s.slot k.slot with readCount := (s.slot k.slot).readCount + 1 }) ∧
    (k.write = true → ∃ (counts : Tbl Nat) (claim : Option Claim),
      w.slot k.slot = { s.slot k.slot with writeCounts := counts, claim := claim } ∧
      (∀ j, Tbl.getD counts j 0 = (s.slot k.slot).writes j + (if j = k.chunk then 1 else 0)) ∧
      ((s.slot k.slot).claim = none → claim = none) ∧
      ∀ c ∈ (s.slot k.slot).claim,
        (¬ ((c.state = .copying ∨ c.state = .cutover) ∧ c.index = k.index) → claim = some c) ∧
        ((c.state = .copying ∨ c.state = .cutover) → c.index = k.index → ∃ chunks, claim = some { c with chunks := chunks } ∧
          ∀ j, Tbl.getD chunks j .dirty = if j = k.chunk then (c.chunk j).written else c.chunk j))

/-- `w` is `s` once such a command has drawn its fragment and sent it: the command is ISSUED with one fragment outstanding, its creation is
reported, the record goes out with its handle and a WRITE's data, and the governor counts it (R42, R45, R46, R54, R95). -/
def State.SendsOne (s w : State) (e n : Nat) (c : Command) (v : Volume) : Prop :=
  w.command e = some { c with state := .issued { outstanding := 1, failure := none, gathered := [], abort := false } } ∧
  w.frag n = some (s.oneFragment e c.record v) ∧ w.fragUse n = s.fragUse n + 1 ∧
  (∀ k, k ≠ e → w.command k = s.command k) ∧ (∀ k, k ≠ n → w.frag k = s.frag k ∧ w.fragUse k = s.fragUse k) ∧
  s.Reports w (s.markOf v c.record) ∧
  w.shelfOut = s.shelfOut ++ [((s.placeOf v c.record).port,
    .fragment (.pool (Fin.ofNat 4096 n) (s.fragUse n + 1)) (fragKindOf c.record.kind) (some (s.placeOf v c.record).drive)
      (s.placeOf v c.record).dbn 1 (if c.record.kind = .write then c.record.data else []))] ∧
  w = { s with
    fre := { s.fre with commands := w.fre.commands, frags := w.fre.frags, useCounts := w.fre.useCounts },
    mgc := { s.mgc with slots := w.mgc.slots },
    acg := { s.acg with hostCounts := countUp s.acg.hostCounts (s.placeOf v c.record).port },
    shelfOut := w.shelfOut }

/-- The fragment of one piece of a range on PLAIN records (R22, R43). -/
def State.pieceDraw (s : State) (kind : FragKind) (q : Piece) : Draw :=
  let x := s.recAt q.index
  let pl := translate (s.layout x.group.toNat) x.band.toNat q.off
  { kind := kind, port := pl.port, mark := none, addr := some { vbn := q.vbn, drive := pl.drive, dbn := pl.dbn, count := q.count } }

/-- The record that goes out for a fragment of a command (R143): a WRITE's carries the blocks of its piece. -/
def sentRecord (r : CommandRecord) (n : Nat) (use : Byte) (d : Draw) : Nat × ShelfRecord :=
  (d.port, match d.addr with
    | some a => .fragment (.pool (Fin.ofNat 4096 n) use) d.kind (some a.drive) a.dbn a.count
        (if d.kind = .write then (r.data.drop (a.vbn - r.start.toNat)).take a.count else [])
    | none => .fragment (.pool (Fin.ofNat 4096 n) use) d.kind none 0 0 [])

/-- `w` is `s` once a command has drawn the unmarked fragments `ds` and sent them all: each has a free number of the pool, in rising order,
with its use count advanced and its timer started, and goes out in that order, counted by the governor (R42, R45, R46, R95). -/
def State.Issues (s w : State) (e : Nat) (c : Command) (ds : List Draw) : Prop :=
  w.command e = some { c with state := .issued { outstanding := ds.length, failure := none, gathered := [], abort := false } } ∧
  (∀ k, k ≠ e → w.command k = s.command k) ∧
  (∃ ns : List Nat, ns.length = ds.length ∧ ns.Pairwise (fun m n => m < n) ∧ (∀ n ∈ ns, n < 4096 ∧ s.frag n = none) ∧
    (∀ n, n ∉ ns → w.frag n = s.frag n ∧ w.fragUse n = s.fragUse n) ∧
    (∀ (j n : Nat) (d : Draw), ns[j]? = some n → ds[j]? = some d → w.fragUse n = s.fragUse n + 1 ∧
      w.frag n = some { owner := some e, kind := d.kind, port := d.port, addr := d.addr, mark := none, timer := s.fre.timeout * 1000 }) ∧
    w.shelfOut = s.shelfOut ++ (ns.zip ds).map (fun x => sentRecord c.record x.1 (s.fragUse x.1 + 1) x.2)) ∧
  w = { s with
    fre := { s.fre with commands := w.fre.commands, frags := w.fre.frags, useCounts := w.fre.useCounts },
    acg := { s.acg with hostCounts := ds.foldl (fun t d => countUp t d.port) s.acg.hostCounts },
    shelfOut := w.shelfOut }

/-- `w` is `s` once fragment `n` is back in the pool: no drain counts it (R57), and the count that its mark raised is lowered (R55). -/
def State.Returned (s w : State) (n : Nat) (mark : Option Mark) : Prop :=
  (∀ k, w.frag k = if k = n then none else s.frag k) ∧
  ∀ i, (∃ counts, w.slot i = { s.slot i with
      claim := (s.slot i).claim.map (fun c => { c with drain := if i < 4 then c.drain.erase n else c.drain }), writeCounts := counts,
      readCount := (s.slot i).readCount - (if mark.any (fun k => decide (k.slot = i ∧ k.write = false)) then 1 else 0) }) ∧
    ∀ j, (w.slot i).writes j =
      (s.slot i).writes j - (if mark.any (fun k => decide (k.slot = i ∧ k.write = true ∧ k.chunk = j)) then 1 else 0)

/-- What stands at a block of the data gathered for a READ once a fragment has completed: the block it brought, or what stood there. -/
def Fragment.gathers (f : Fragment) (o : FragOutcome) (data : List Block) (old : Block) (b : Nat) : Block :=
  match f.addr with
  | some a => if o = .ok ∧ f.kind = .read ∧ a.vbn ≤ b ∧ b < a.vbn + a.count then data.getD (b - a.vbn) 0 else old
  | none => old

/-- The failure a command keeps: that of the lowest first block, or for a FLUSH of the lowest port (R48). -/
def Fragment.fails (f : Fragment) (o : FragOutcome) (old : Option (Nat × FragOutcome)) : Option (Nat × FragOutcome) :=
  let key := match f.addr with | some a => a.vbn | none => f.port
  if o = .ok then old
  else match old with
    | none => some (key, o)
    | some g => if key < g.1 then some (key, o) else some g

/-- The status that a command whose last fragment has completed is answered with (R48). -/
def earned (r : CommandRecord) (abort : Bool) (failure : Option (Nat × FragOutcome)) (g : Tbl Block) : StatusRecord :=
  if abort then plainStatus r.tag .aborted
  else match failure with
    | none => { plainStatus r.tag .good with
        data := if r.kind = .read then (List.range r.length.toNat).map (fun j => Tbl.getD g (r.start.toNat + j) 0) else [] }
    | some f => { plainStatus r.tag .deviceError with
        reason := some f.2, failingPort := if r.kind = .flush then some f.1 else none,
        failingBlock := if r.kind = .flush then none else some f.1 }

/-- `w` is `s` once fragment `n` has completed: it is back in the pool; its owner, if ISSUED, has one fragment fewer outstanding, keeps the
outcome and the data, and is answered at the last one; an orphaned fragment's completion goes to no command (R46, R48, R49). -/
def State.FragmentEnds (s w : State) (n : Nat) (o : FragOutcome) (data : List Block) : Prop :=
  ∃ f, s.frag n = some f ∧ s.Returned w n f.mark ∧ (∀ k, f.owner ≠ some k → w.command k = s.command k) ∧
    ((∀ e ∈ f.owner, ∀ c i, s.command e = some c → c.state ≠ .issued i) → (∀ k, w.command k = s.command k) ∧ w.hostOut = s.hostOut) ∧
    (∀ e ∈ f.owner, ∀ c i, s.command e = some c → c.state = .issued i →
      ∃ g, (∀ b, Tbl.getD g b 0 = f.gathers o data (Tbl.getD i.gathered b 0) b) ∧
        (2 ≤ i.outstanding → w.hostOut = s.hostOut ∧ w.command e = some { c with
          state := .issued { i with outstanding := i.outstanding - 1, failure := f.fails o i.failure, gathered := g } }) ∧
        (i.outstanding ≤ 1 → w.command e = none ∧
          w.hostOut = s.hostOut ++ [(c.port, earned c.record i.abort (f.fails o i.failure) g)])) ∧
    w = { s with
      fre := { s.fre with commands := w.fre.commands, frags := w.fre.frags }, mgc := { s.mgc with slots := w.mgc.slots },
      hostOut := w.hostOut }

/-- `w` is `s` once each of these fragments in turn has completed NOT-PRESENT (R139, R141). -/
def State.LosesFragments (w : State) : List Nat → State → Prop
  | [], s => w = s
  | n :: ns, s => ∃ u, s.FragmentEnds u n .notPresent [] ∧ State.LosesFragments w ns u

/-- A lane once the lane fragments that a test names have completed NOT-PRESENT (R83, R84, R88): they leave, the phase failure is recorded
if absent, a lane that was reading and has none left gives up its buffer, and a STOPPING lane that has none left is FREE. -/
def Lane.loses (ln : Lane) (gone : LaneFrag → Bool) : Lane :=
  let rest := ln.frags.filter (fun f => !gone f)
  if ln.frags.any gone = false then ln
  else if rest = [] ∧ ln.state = .stopping then { Lane.initial with seq := ln.seq }
  else { ln with
    frags := rest, failure := some (ln.failure.getD .notPresent),
    buffer := if rest = [] ∧ ln.state = .reading then [] else ln.buffer }

/-- `w` is `s` once each of these target flush fragments in turn has completed NOT-PRESENT: where the slot awaits it, its move is abandoned
with TARGET-ERROR, or the slot takes SHELF-LOST first and the completion is discarded (R70, R141; the free value of log 10); elsewhere it is
discarded. -/
def State.LosesFlushes (w : State) : List FlushFrag → State → Prop
  | [], s => w = s
  | f :: fs, s =>
    let less := s.setMgc { s.mgc with flushFrags := s.mgc.flushFrags.erase f }
    let counted := less.setFreeCount (s.freeCount + 1)
    if s.awaits f then State.LosesFlushes w fs counted ∨ State.LosesFlushes w fs (counted.abandon f.slot .targetError)
    else State.LosesFlushes w fs less

/-- The Command Table entry of a number once these commands have joined the re-entry list: those of them that hold an entry are WAITING
(R41). -/
def State.released (s : State) (es : List Nat) (e : Nat) : Option Command :=
  if e ∈ es then (s.command e).map (fun c => { c with state := .waiting }) else s.command e

/-- `w` is `s` once check 8 has claimed slot `i` for the ZERO extent of the one block that a WRITE or DISCARD in entry `e` touches (R40,
R106): the record is ZEROING, every chunk DIRTY, and every fragment drawn now is in the drain. A WRITE is parked there, sending nothing; a
DISCARD draws no fragment and is answered GOOD (R105). -/
def State.ClaimsZero (s w : State) (e : Nat) (c : Command) (v : Volume) (i : Nat) : Prop :=
  let r := c.record
  let x := r.start.toNat / extentBlocks
  let idx := v.mapBase + x
  let old := s.recAt idx
  (∀ k, w.command k = if k = e then (if r.kind = .write then some { c with state := .parked } else none) else s.command k) ∧
  w.slot i = { s.slot i with
    pause := false,
    claim := some
      { state := .zeroing, volume := r.volume.toNat, extent := x, index := idx, source := ⟨old.group.toNat, old.band.toNat⟩, chunks := [],
        drain := s.drawnNow, hold := if r.kind = .write then [e] else [], move := none } } ∧
  (∀ j, j ≠ i → w.slot j = s.slot j) ∧
  w.recAt idx = { old with state := .zeroing, slot := some (Fin.ofNat 4 i) } ∧ (∀ j, j ≠ idx → w.recAt j = s.recAt j) ∧
  (∀ k, (w.sect k).check = if k = sectionOf idx then sectionCheck w.lmu.extents k else (s.sect k).check) ∧
  w = { s with
    lmu := { s.lmu with extents := w.lmu.extents }, fre := { s.fre with commands := w.fre.commands },
    mgc := { s.mgc with slots := w.mgc.slots }, msb := { s.msb with sections := w.msb.sections },
    hostOut := if r.kind = .write then s.hostOut else s.hostOut ++ [(c.port, plainStatus r.tag .good)] }

/-- `w` is `s` once port `p` has left ONLINE for the port state `x` (R141): its drives are ABSENT with capacity 0 and change counts kept,
SHELF-CHANGE is raised, every host, lane and target flush fragment in flight on it has completed NOT-PRESENT with its owner, and every slot
at work is told of the exit. -/
def State.Exits (s w : State) (p : Nat) (x : Port) : Prop :=
  w.port p = x ∧ (∀ q, q ≠ p → w.port q = s.port q) ∧
  (∀ d, d < 24 → w.drive p d = { present := false, capacity := 0, changes := (s.drive p d).changes }) ∧
  (∀ q d, d < 256 → q ≠ p ∨ 24 ≤ d → w.drive q d = s.drive q d) ∧
  w.spc = { s.spc with ports := w.spc.ports, drives := w.spc.drives } ∧
  w.pendingNotice .shelfChange = true ∧ (∀ n, n ≠ .shelfChange → w.pendingNotice n = s.pendingNotice n) ∧
  w.fnu = { s.fnu with notices := w.fnu.notices } ∧
  (∀ i, i < 4 → ((i, p) ∈ w.mgc.exitReports ↔ (s.slot i).claim.isSome = true)) ∧
  (∀ r, r.2 ≠ p → (r ∈ w.mgc.exitReports ↔ r ∈ s.mgc.exitReports)) ∧
  ∃ (ns : List Nat) (u v : State), ns.Nodup ∧ (∀ n, n ∈ ns ↔ (s.frag n).any (fun f => f.port == p) = true) ∧
    (∀ l, l < 4 → u.lane l = (s.lane l).loses (fun f => f.port == p)) ∧ u.cpm = { s.cpm with lanes := u.cpm.lanes } ∧
    State.LosesFragments u ns { s with spc := w.spc, fnu := w.fnu, cpm := u.cpm } ∧
    State.LosesFlushes v (s.mgc.flushFrags.filter (fun f => f.port == p)) u ∧
    w = v.setMgc { v.mgc with exitReports := w.mgc.exitReports }

/-- `w` is `s` once the power of port `p` has been worked out again (R130, R131): a port in ONLINE whose demand is OFF leaves it for OFF with
all that R141 gives, one that stays powered is as it was, and one in another state changes nothing but itself, the notice of its new state
and the condition of a fault that trips it. -/
def State.WorksOut (s w : State) (p : Nat) : Prop :=
  w.port p = (s.port p).worked (s.demand p) (decide (s.spc.mode ≠ .unswitched)) ∧
  ((s.port p).state = .online → s.demand p = false → s.Exits w p (s.port p).unpowered) ∧
  ((s.port p).output = true → s.demand p = true → w = s) ∧
  ((s.port p).state ≠ .online →
    (∀ q, q ≠ p → w.port q = s.port q) ∧ ((w.port p).state ≠ (s.port p).state → w.pendingNotice .shelfChange = true) ∧
    ((w.port p).state = .faulted → (s.port p).state ≠ .faulted → w.condAt p = true) ∧
    w = { s with
      spc := { s.spc with ports := w.spc.ports }, fnu := { s.fnu with conds := w.fnu.conds, notices := w.fnu.notices } })

/-- `w` is `s` once the power of each of these ports in turn has been worked out again. -/
def State.WorksOutAll (w : State) : List Nat → State → Prop
  | [], s => w = s
  | p :: ps, s => ∃ u, s.WorksOut u p ∧ State.WorksOutAll w ps u

/-- The part is out of reset and the request executes: it is the head CONTROL's, or no CONTROL waits (R168, log 4). -/
def State.accepts (s : State) (i : Instr) : Prop := s.resetn = false ∧ s.takes i = true

/-- A reply with outcome DONE and a body (R170). -/
def doneWith (body : List Byte) : Reply := { refused := none, body := body }

/-- A reply with outcome REFUSED, a reason and no body (R170). -/
def refusedFor (r : Refuse) : Reply := { refused := some r, body := [] }

/-- The state once the head of a port's queue is taken: the queue has its rest, and the marker holds the port (R28). -/
def State.taken (s : State) (p : HostPort) (rest : List CommandRecord) : State :=
  (s.setQueue p rest).setHli { (s.setQueue p rest).hli with servedLast := p }

/-- Every block holds its power-on value, but for the levels of the current-fault inputs, which are those of `s` (R178, log 15). -/
def State.PoweredOn (s t : State) : Prop :=
  t.lmu = .reset ∧ t.hli = .reset ∧ t.cau = ⟨[]⟩ ∧ t.fre = .reset ∧ t.mgc = .reset ∧ t.cpm = .reset ∧ t.acg = .reset ∧ t.dvq = .reset ∧
  t.msb = .reset ∧ t.fnu = .reset ∧ t.mgu = .reset ∧ t.spc.mode = .individual ∧ t.spc.globalSwitch = false ∧ t.spc.drives = [] ∧
  ∀ p, t.port p = { Port.initial with faultInput := (s.port p).faultInput }

/-- A MOVE slot's pass has ended, its flush is due, or its work is over: what the end of an event carries out (R64, R68, R72, R74). -/
def State.slotDue (s : State) (i : Nat) : Bool :=
  match (s.slot i).claim with
  | none => false
  | some c =>
    match c.state, c.move with
    | .copying, some m => decide (c.drain = [] ∧ c.busy = false ∧ (s.slot i).idle c m.sweep = none)
    | .cutover, some m => decide (m.flushOut = 0 ∧ c.dirtyCount = 0 ∧ (s.slot i).totalWrites = 0)
    | .retiring, _ => decide ((s.slot i).readCount = 0)
    | .abandoning, some _ => !s.inService i
    | .ending, _ => !s.inService i
    | _, _ => false

/-- RESETn is asserted or released. -/
def isPowerReset : Instr → Bool
  | .resetnAssert => true
  | .resetnRelease => true
  | _ => false

/-- The current-fault inputs, whose level is followed even while RESETn is asserted (R135, log 15). -/
def isFaultLevel : Instr → Bool
  | .currentFault _ => true
  | .currentFaultDeassert _ => true
  | _ => false

/-- The commands that may change the latched sample and the busy set (R96, R100). -/
def writesSample : Instr → Bool
  | .windowEnd => true
  | .resetBridge => true
  | i => isPowerReset i

/-- The commands that may write the Initiator Table or its size-notice flags (R31 to R33, R37, R44). -/
def writesInitiators : Instr → Bool
  | .loadInitiator _ _ _ _ => true
  | .dropInitiator _ _ => true
  | .growVolume _ _ => true
  | .loadExtents _ _ _ => true
  | .takeQueueHead _ => true
  | .serveReentry => true
  | i => isPowerReset i

/-- The commands that may write the Volume Table (R1 to R3, R10, R102, R119). -/
def writesVolumes : Instr → Bool
  | .loadVolume _ _ _ _ => true
  | .setVolumeState _ _ => true
  | .loadExtents _ _ _ => true
  | .growVolume _ _ => true
  | .setDivert _ _ => true
  | i => isPowerReset i

/-- The commands that may write the Group Table (R14 to R16). -/
def writesGroups : Instr → Bool
  | .loadGroup _ _ _ _ _ => true
  | .activateGroup _ => true
  | .deactivateGroup _ => true
  | i => isPowerReset i

/-- The commands that may set or clear a fence (R150, R152). -/
def writesFences : Instr → Bool
  | .scrubVisit => true
  | .loadExtents _ _ _ => true
  | i => isPowerReset i

/-- The commands that may change a record of a FENCED section (R8). -/
def writesFencedRecords : Instr → Bool
  | .loadExtents _ _ _ => true
  | .mapMemoryFault _ _ => true
  | i => isPowerReset i

/-- The commands that may change a generation or an owner tag to a value other than the next generation (R9). -/
def rewritesVersions : Instr → Bool
  | .loadExtents _ _ _ => true
  | .growVolume _ _ => true
  | .mapMemoryFault _ _ => true
  | i => isPowerReset i

/-- The commands at which a generation advances: a flip, at a completion, and MIGRATE of a ZERO extent (R9). -/
def advancesVersions : Instr → Bool
  | .shelfCompletionRecord _ _ => true
  | .migrate _ _ _ _ _ => true
  | i => rewritesVersions i

/-- The requests that set tuning values (R172). -/
def writesTuning : Instr → Bool
  | .setCopyPolicy _ _ _ _ _ => true
  | .setGovernor _ _ => true
  | .setDivert _ _ => true
  | .setScrub _ => true
  | .setFragmentTimeout _ => true
  | i => isPowerReset i

/-- The requests that write a power mode, a switch or a follow-global flag (R130). -/
def writesSwitches : Instr → Bool
  | .setPowerMode _ => true
  | .powerShelves _ => true
  | .powerPort _ _ _ => true
  | i => isPowerReset i

/-- The requests that can leave work due at the slots, which comes after their response (R169, log 17). -/
def leavesWork : Instr → Bool
  | .migrate _ _ _ _ _ => true
  | .abortMigration _ _ _ => true
  | .setPowerMode _ => true
  | .powerShelves _ => true
  | .powerPort _ _ _ => true
  | .resetShelfPort _ => true
  | _ => false

/-- The two requests that write fault masks or notice masks (R161, R164). -/
def writesMasks : Instr → Bool
  | .setFaultMasks _ _ => true
  | .setNoticeMask _ => true
  | i => isPowerReset i

/-- The commands that may clear a condition (R156). -/
def clearsConditions : Instr → Bool
  | .clearFaults _ => true
  | i => isPowerReset i

/-- The commands that may clear a notice (R163, R166). -/
def clearsNotices : Instr → Bool
  | .readNotices => true
  | .resetBridge => true
  | i => isPowerReset i

end Sys2Proof.Machine
end

