-- ==== Sys2Proof/WellFormed.lean ====
section
/-! DEFINITION. Well-formed commands: every operand fits the field that R179 gives it, and every name kept as a code is one the code does
not already have a name for. `exec` gives every command a meaning, well formed or not; a well-formed request is one that a record on the
link can carry. -/

namespace Sys2Proof

/-- A number fits in `n` bytes. -/
def fits (n x : Nat) : Bool := decide (x < 256 ^ n)

/-- A number that may be left out fits in `n` bytes. -/
def fitsOpt (n : Nat) : Option Nat → Bool
  | none => true
  | some x => fits n x

/-- A list fits its two-byte count, and its items fit. -/
def fitsList {α : Type} (l : List α) (item : α → Bool) : Bool := fits 2 l.length && l.all item

/-- An unknown kind is none of the seven (R25, R179). -/
def Kind.wf : Kind → Bool
  | .unknown c => decide (c = 0 ∨ 7 < c.toNat)
  | _ => true

/-- An unknown handle is in none of the three forms (R143, R179). -/
def Handle.wf : Handle → Bool
  | .unknown f r =>
    let b := fun i => r.toNat / 256 ^ i % 256
    !(decide (f = 0 ∧ b 0 + 256 * b 1 < 4096)) && !(decide (f = 1 ∧ b 0 < 4 ∧ b 2 < 2 ∧ b 3 < 64)) && !(decide (f = 2 ∧ b 0 < 4))
  | _ => true

/-- A member entry fits (R179). -/
def MemberArg.wf (m : MemberArg) : Bool := fits 1 m.port && fits 1 m.drive && fits 6 m.base

/-- A listed record fits (R179). -/
def ExtentArg.wf (x : ExtentArg) : Bool := fits 1 x.group && fits 2 x.band && fits 1 x.state

/-- The outcome of a RESOLVE fits, and another outcome is neither COMPLETE nor PASS (R124). -/
def ResolveArg.wf : ResolveArg → Bool
  | .complete st b p w => fits 1 st && fitsOpt 8 b && fitsOpt 1 p && fitsOpt 1 w
  | .pass => true
  | .other c => fits 1 c && decide (1 < c)

/-- A mask item fits. -/
def MaskItem.wf (m : MaskItem) : Bool := fits 1 m.name && fits 1 m.masked

/-- A fault item fits. -/
def FaultItem.wf (f : FaultItem) : Bool := fits 1 f.cond && fits 1 f.inst

/-- A first-level mask item fits. -/
def FaultMaskItem.wf (f : FaultMaskItem) : Bool := fits 1 f.cond && fits 1 f.inst && fits 1 f.masked

/-- A command is well formed. -/
def Instr.wf : Instr → Bool
  | .commandRecord _ r => r.kind.wf
  | .takeQueueHead _ => true
  | .serveReentry => true
  | .hostPortReset _ => true
  | .shelfCompletionRecord _ r => r.handle.wf
  | .fragmentTimerExpiry _ => true
  | .laneFragmentTimerExpiry _ _ => true
  | .flushFragmentTimerExpiry _ _ _ => true
  | .laneGrant => true
  | .takeGrant _ => true
  | .copyCompletion _ => true
  | .cutoverTimerExpiry _ => true
  | .portExitReport _ _ => true
  | .fenceReport _ => true
  | .diversionTimerExpiry _ => true
  | .windowEnd => true
  | .scrubVisit => true
  | .currentFault _ => true
  | .settleTimerExpiry _ => true
  | .inventoryReport _ es => fits 2 es.length
  | .linkTimerExpiry _ => true
  | .slotChangeReport _ _ _ => true
  | .shelfLinkLoss _ => true
  | .resetnAssert => true
  | .resetnRelease => true
  | .loadGroup g u w b ms => fits 1 g && fits 2 u && fits 1 w && fits 2 b && decide (ms.length = w) && ms.all MemberArg.wf
  | .activateGroup g => fits 1 g
  | .deactivateGroup g => fits 1 g
  | .readGroup g f k => fits 1 g && fits 2 f && fits 2 k
  | .loadVolume v m n d => fits 1 v && fits 2 m && fits 2 n && fits 1 d
  | .setVolumeState v st => fits 1 v && fits 1 st
  | .readVolume v => fits 1 v
  | .loadExtents v f l => fits 1 v && fits 2 f && fitsList l ExtentArg.wf
  | .readExtents v f k => fits 1 v && fits 2 f && fits 2 k
  | .loadInitiator _ p rs m => fits 1 p && decide (rs.length = 16) && rs.all (fits 1) && fits 1 m
  | .dropInitiator _ p => fits 1 p
  | .readInitiators f k => fits 1 f && fits 1 k
  | .growVolume v l => fits 1 v && fitsList l (fun x => fits 1 x.1 && fits 2 x.2)
  | .migrate v x g b _ => fits 1 v && fits 2 x && fits 1 g && fits 2 b
  | .abortMigration v x _ => fits 1 v && fits 2 x
  | .pauseSlot i => fits 1 i
  | .resumeSlot i => fits 1 i
  | .readSlot i => fits 1 i
  | .setCopyPolicy a b c d e => fitsOpt 1 a && fitsOpt 1 b && fitsOpt 1 c && fitsOpt 1 d && fitsOpt 2 e
  | .setGovernor a b => fitsOpt 2 a && fitsOpt 2 b
  | .readSample => true
  | .setDivert none t => fitsOpt 1 t
  | .setDivert (some p) t => fits 1 p.1 && fits 1 p.2 && fitsOpt 1 t
  | .readDiversions => true
  | .resolve n _ o => fits 1 n && o.wf
  | .setPowerMode m => fits 1 m
  | .powerShelves v => fits 1 v
  | .powerPort p v f => fits 1 p && fits 1 v && fits 1 f
  | .resetShelfPort p => fits 1 p
  | .readShelf p => fits 1 p
  | .setFragmentTimeout t => fitsOpt 1 t
  | .setScrub t => fitsOpt 1 t
  | .checkDiagnostic k p => fits 1 k && fits 1 p
  | .readNotices => true
  | .setNoticeMask l => fitsList l MaskItem.wf
  | .readFaults => true
  | .clearFaults l => fitsList l FaultItem.wf
  | .setFaultMasks a b => fitsList a FaultMaskItem.wf && fitsList b MaskItem.wf
  | .resetBridge => true
  | .mapMemoryFault _ _ => true
  | .currentFaultDeassert _ => true
  | .unknownRequestCode _ => true

end Sys2Proof
end

