-- ==== Sys2Proof/Certificates/Slice0/Obligations.lean ====
section
/-! DEFINITION. What the provers are asked to prove of the model: the machine as a whole, its invariants, who may write which state, and
for every command its effect and where it completes. -/

open Sys2Proof Sys2Proof.Machine

/-! ### The machine as a whole -/

/-- A step takes the command at the front of the queue and runs it with the queue's rest.
Model's choices in it: log 3. -/
def Obligations.StepRunsFrontCommand : Prop :=
  ∀ (s : State) (c : Instr) (rest : List Instr), s.pending = c :: rest → step s = exec c (s.setPending rest)

/-- On an empty queue one millisecond passes: the timers of the part run, and nothing else changes. The model's choice (log 1).
Model's choices in it: logs 1, 2 and 22. -/
def Obligations.EmptyQueueStepIsOneMillisecond : Prop :=
  ∀ s : State, s.pending = [] →
    (s.resetn = true → step s = .next s) ∧
    (s.resetn = false → ∃ t, step s = .next t ∧
      t.dvq.timeCount = s.dvq.timeCount + 1 ∧ t.acg.windowLeft = s.acg.windowLeft - 1 ∧ t.msb.left = s.msb.left - 1 ∧
      (∀ n, t.frag n = (s.frag n).map (fun f => { f with timer := f.timer - 1 })) ∧
      (∀ n, Tbl.find t.dvq.entries n = (Tbl.find s.dvq.entries n).map (fun d => { d with timer := d.timer - 1 })) ∧
      (∀ p, t.port p = { s.port p with settle := (s.port p).settle.map (· - 1), link := (s.port p).link.map (· - 1) }) ∧
      (∀ l, t.lane l = { s.lane l with frags := (s.lane l).frags.map (fun f => { f with timer := f.timer - 1 }) }) ∧
      (∀ i, t.slot i = { s.slot i with claim := (s.slot i).claim.map (fun c =>
        { c with move := c.move.map (fun m => { m with timer := m.timer.map (· - 1) }) }) }) ∧
      t.mgc.flushFrags = s.mgc.flushFrags.map (fun f => { f with timer := f.timer - 1 }) ∧
      t = { s with
        fre := { s.fre with frags := t.fre.frags },
        mgc := { s.mgc with slots := t.mgc.slots, flushFrags := t.mgc.flushFrags },
        cpm := { s.cpm with lanes := t.cpm.lanes },
        acg := { s.acg with windowLeft := t.acg.windowLeft },
        dvq := { s.dvq with entries := t.dvq.entries, timeCount := t.dvq.timeCount },
        spc := { s.spc with ports := t.spc.ports },
        msb := { s.msb with left := t.msb.left } })

/-- Every command runs to a next state, and none but the step itself touches the queue of commands.
Model's choices in it: log 3. -/
def Obligations.EveryCommandCompletesAndKeepsTheQueue : Prop :=
  ∀ (c : Instr) (s : State), ∃ t, exec c s = .next t ∧ t.pending = s.pending

/-- RESETn: the assertion brings every block to its power-on value with no status, record or response sent; while it lasts ALERT and every
power output are deasserted and every event but the release and the current-fault levels is discarded; the release leaves the power-on
values (R177, R178).
Model's choices in it: logs 15 and 20. -/
def Obligations.ResetInputDiscardsAndRestores : Prop :=
  ∀ s : State, ∃ t u, exec .resetnAssert s = .next t ∧ t.resetn = true ∧ s.PoweredOn t ∧ t.alert = false ∧
    (∀ p, (t.port p).output = false) ∧ t.hostOut = s.hostOut ∧ t.shelfOut = s.shelfOut ∧ t.responses = s.responses ∧
    (∀ c, isPowerReset c = false → isFaultLevel c = false → exec c t = .next t) ∧
    exec .resetnRelease t = .next u ∧ u.resetn = false ∧ s.PoweredOn u ∧ u.alert = false ∧
    u.hostOut = s.hostOut ∧ u.shelfOut = s.shelfOut ∧ u.responses = s.responses ∧
    (s.resetn = false → exec .resetnRelease s = .next s)

/-- A command that answers a request REFUSED leaves the state as it was but for the response, which has a body only for CHECK DIAGNOSTIC
(that a refused SET COPY POLICY has none, and a CHECK DIAGNOSTIC refused for its header, is the model's choice).
Model's choices in it: logs 5, 6 and 14. -/
def Obligations.RefusedRequestChangesNothing : Prop :=
  ∀ (c : Instr) (s t : State) (x : Response) (r : Refuse),
    exec c s = .next t → t.responses = s.responses ++ [x] → x.refused = some r →
    t = s.respond x.code { refused := some r, body := x.body } ∧ ((∀ k p, c ≠ .checkDiagnostic k p) → x.body = [])

/-- Forming a response: ATTENTION is ALERT as it stands, the head CONTROL is answered GOOD on its port and with its tag, with the
response record padded to whole blocks, and leaves the queue and the Command Table; with no CONTROL waiting only the response is sent. The
response of a request that a host port reset left executing is discarded (R168).
Model's choices in it: logs 4, 6 and 26. -/
def Obligations.ResponseAnswersTheHeadControl : Prop :=
  ∀ (s : State) (code : BitVec 16) (r : Reply),
    let x : Response := { code := code, refused := r.refused, attention := s.alert, body := r.body }
    (s.mgu.orphan.isSome = true → s.respond code r = s.setMgu { s.mgu with orphan := none }) ∧
    (s.mgu.orphan = none → s.mgu.queue = [] → s.respond code r = { s with responses := s.responses ++ [x] }) ∧
    (∀ e rest c, s.mgu.orphan = none → s.mgu.queue = e :: rest → s.command e = some c →
      s.respond code r = { s with
        responses := s.responses ++ [x],
        mgu := { s.mgu with queue := rest },
        fre := { s.fre with commands := Tbl.del s.fre.commands e },
        hostOut := s.hostOut ++ [(c.port, { plainStatus c.record.tag .good with data := responseBlocks x })] }) ∧
    (responseBlocks x).length = (12 + r.body.length + 4095) / 4096

/-- ALERT is asserted exactly while some condition is set and unmasked at both levels, or some notice is pending and unmasked; every
response carries it as it stands after the request's effects, RESET BRIDGE's as it stands before; after the effects of a request that leaves
work due at the slots, and before that work (log 17); a CONTROL answered BUSY-RETRY at a full queue has no response (R165, R169).
Model's choices in it: logs 4 and 17. -/
def Obligations.AlertAndAttention : Prop :=
  (∀ s : State, s.alert = true ↔
    (∃ g, g < 4 ∧ s.fnu.mask2.getLsbD g = false ∧ ∃ i ∈ summaryRange g, s.condAt i = true ∧ s.fnu.mask1.getLsbD i = false) ∨
    (∃ n, n < 10 ∧ s.fnu.notices.getLsbD n = true ∧ s.fnu.noticeMask.getLsbD n = false)) ∧
  (∀ s : State, s.alert = true ↔
    (∃ g, g < 4 ∧ s.summary g = true ∧ s.fnu.mask2.getLsbD g = false) ∨
    (∃ n, n < 10 ∧ s.fnu.notices.getLsbD n = true ∧ s.fnu.noticeMask.getLsbD n = false)) ∧
  (∀ (c : Instr) (s t : State) (x : Response), exec c s = .next t → t.responses = s.responses ++ [x] →
    (c = .resetBridge → x.attention = s.alert) ∧
    (c ≠ .resetBridge → leavesWork c = false → x.attention = t.alert) ∧
    (leavesWork c = true → x.refused.isSome = true → x.attention = t.alert) ∧
    (leavesWork c = true → x.refused = none → ∃ w : State,
      t = (w.respond x.code (doneWith x.body)).settle ∧ x.attention = w.alert ∧ w.responses = s.responses)) ∧
  (∀ (s : State) (e : Nat) (c : Command), c.record.kind = .control → 8 ≤ s.mgu.load →
    s.check9 e c = s.answer e .busyRetry ∧ (s.check9 e c).responses = s.responses)

/-- The request record that R179's layouts give a well-formed request is read back as that request, whatever bytes follow the body; and so
are a command record, a completion record, a slot entry (with its drive slot) and an inventory report: header, count and entries in slot
order.
Model's choices in it: log 13. -/
def Obligations.RequestRecordsRoundTrip : Prop :=
  (∀ (i : Instr) (code : Nat) (body pad : List Byte), i.wf = true → requestParts i = some (code, body) →
    readRequest (requestBytes i ++ pad) = i) ∧
  (∀ r : CommandRecord, r.kind.wf = true → (commandBytes r).length = 32 ∧ readCommand (commandBytes r) r.data = r) ∧
  (∀ r : CompletionRecord, r.handle.wf = true → (completionBytes r).length = 8 ∧ readCompletion (completionBytes r) r.data = r) ∧
  (∀ (d : Byte) (e : SlotEntry), (entryBytes d e).length = 8 ∧ readEntry (entryBytes d e) = (d, e)) ∧
  (∀ (es : List SlotEntry) (pad : List Byte), es.length < 65536 →
    (inventoryBytes es).length = 8 + 8 * es.length ∧ readInventory (inventoryBytes es ++ pad) = some es)

/-- What the spec says power-on reset leaves (R178 and the rules it names).
Model's choices in it: logs 15 and 26. -/
def Obligations.ResetHoldsThePowerOnValues : Prop :=
  let s := State.reset
  (s.queue .hp0 = [] ∧ s.queue .hp1 = [] ∧ s.hli.servedLast = .hp1 ∧ s.cau.initiators = []) ∧
  (∀ v i g l, s.volume v = none ∧ s.recAt i = emptyRec ∧ s.group g = none ∧ s.holder l = none) ∧
  (∀ e n, s.command e = none ∧ s.frag n = none ∧ s.fragUse n = 0) ∧ s.fre.reentry = [] ∧ s.fre.timeout = 8 ∧
  (∀ i, s.slot i = Slot.initial) ∧ s.mgc.threshold = 4 ∧ s.mgc.passLimit = 5 ∧ s.mgc.cutoverTimeout = 500 ∧
  (∀ l, s.lane l = Lane.initial) ∧ s.cpm.laneCount = 2 ∧ s.cpm.priority = .rotating ∧ s.cpm.rotation = 3 ∧ s.stopHold = false ∧
  s.acg.sample = .initial ∧ s.acg.windowLength = 100 ∧ s.acg.busyLevel = 0 ∧
  (∀ p, Tbl.getD s.acg.hostCounts p 0 = 0 ∧ Tbl.getD s.acg.copyCounts p 0 = 0) ∧ s.acg.windowNow = 100 ∧ s.acg.windowLeft = 100 ∧
  (∀ n, Tbl.find s.dvq.entries n = none ∧ Tbl.getD s.dvq.useCounts n 0 = 0) ∧ s.dvq.order = [] ∧ s.dvq.timeCount = 0 ∧ s.dvq.timeout = 20 ∧
  s.spc.mode = .individual ∧ s.spc.globalSwitch = false ∧ (∀ p, s.port p = Port.initial) ∧ (∀ p d, s.drive p d = Drive.initial) ∧
  (∀ k, (s.sect k).fenced = false ∧ (s.sect k).check = sectionCheck [] k ∧ (s.sect k).reload = [] ∧ (s.sect k).fence = none) ∧
  s.msb.position = 0 ∧ s.msb.cycle = 0 ∧ s.msb.interval = 10 ∧ s.msb.left = 10 ∧ s.msb.diagnostic = none ∧
  s.fnu.conds = 0 ∧ s.fnu.resets0 = 0 ∧ s.fnu.resets1 = 0 ∧ s.fnu.mask1 = 0 ∧ s.fnu.mask2 = 0 ∧ s.fnu.notices = 0 ∧
  s.fnu.noticeMask = 0 ∧ s.alert = false ∧ s.mgu.queue = [] ∧ s.mgu.orphan = none ∧ s.resetn = false

/-! ### Invariants -/

/-- The state after reset meets every invariant below. -/
def Obligations.ResetMeetsTheInvariants : Prop :=
  State.reset.TablesInOrder ∧ State.reset.ChecksAgree ∧ State.reset.VolumesSound ∧ State.reset.GroupsSound ∧
  State.reset.InitiatorsSound ∧ State.reset.QueuesBounded ∧ State.reset.TuningInRange ∧ State.reset.OneLanePerSlot ∧
  State.reset.OneBusyChunk ∧ State.reset.PortsSound

/-- Every step keeps every table of the state in its canonical form, those within its entries too (`State.TablesInOrder` lists them). -/
def Obligations.TablesStayInOrder : Prop :=
  ∀ s t : State, s.TablesInOrder → step s = .next t → t.TablesInOrder

/-- Every step but one whose front command is a fault of the map memory keeps the stored check of every UNFENCED section that of its
records. -/
def Obligations.SectionChecksStayInAgreement : Prop :=
  ∀ s t : State, (∀ i r rest, s.pending ≠ .mapMemoryFault i r :: rest) → s.ChecksAgree → step s = .next t → t.ChecksAgree

/-- Every step keeps the ranges of every loaded volume with the regions of two volumes disjoint, and the member ranges of two ACTIVE
groups from overlapping on one drive. -/
def Obligations.RegionsAndMemberRangesStayDisjoint : Prop :=
  (∀ s t : State, s.VolumesSound → step s = .next t → t.VolumesSound) ∧
  (∀ s t : State, s.GroupsSound → step s = .next t → t.GroupsSound)

/-- Every step keeps the Initiator Table free of two entries for one initiator, and of a size notice without a right. -/
def Obligations.InitiatorsStaySound : Prop :=
  ∀ s t : State, s.InitiatorsSound → step s = .next t → t.InitiatorsSound

/-- Every step keeps the admission queues, the management queue and the hold lists within their capacities, and every tuning value in its
range. -/
def Obligations.QueuesAndTuningStayInBounds : Prop :=
  (∀ s t : State, s.QueuesBounded → step s = .next t → t.QueuesBounded) ∧
  (∀ s t : State, s.TuningInRange → step s = .next t → t.TuningInRange)

/-- Every step keeps each slot served by at most one lane, and with at most one chunk in COPYING or STALE. -/
def Obligations.SlotsKeepOneCopyAtATime : Prop :=
  (∀ s t : State, s.OneLanePerSlot → step s = .next t → t.OneLanePerSlot) ∧
  (∀ s t : State, s.OneBusyChunk → step s = .next t → t.OneBusyChunk)

/-- Every step keeps each port's output, cause, timers and drive entries as its state, demand and latch require.
Model's choices in it: log 18. -/
def Obligations.PortsStaySound : Prop :=
  ∀ s t : State, s.PortsSound → step s = .next t → t.PortsSound

/-! ### Who may write which state -/

/-- After power-on reset every volume is unloaded, and only LOAD VOLUME, SET VOLUME STATE, SET DIVERT, GROW VOLUME, LOAD EXTENTS and RESETn
write the Volume Table, so that RESET BRIDGE, host port reset and shelf port reset leave it as it was. The tuning values, the power mode and
switches, and the masks are written by their own requests and by RESETn alone. -/
def Obligations.VolumesAndSettingsHaveNamedWriters : Prop :=
  ((∀ v, State.reset.volume v = none) ∧
  ∀ (c : Instr) (s t : State), writesVolumes c = false → exec c s = .next t → t.lmu.volumes = s.lmu.volumes) ∧
  (∀ (c : Instr) (s t : State), exec c s = .next t →
    (writesTuning c = false →
      t.cpm.laneCount = s.cpm.laneCount ∧ t.cpm.priority = s.cpm.priority ∧ t.mgc.threshold = s.mgc.threshold ∧
      t.mgc.passLimit = s.mgc.passLimit ∧ t.mgc.cutoverTimeout = s.mgc.cutoverTimeout ∧ t.acg.windowLength = s.acg.windowLength ∧
      t.acg.busyLevel = s.acg.busyLevel ∧ t.dvq.timeout = s.dvq.timeout ∧ t.msb.interval = s.msb.interval ∧
      t.fre.timeout = s.fre.timeout) ∧
    (writesSwitches c = false →
      t.spc.mode = s.spc.mode ∧ t.spc.globalSwitch = s.spc.globalSwitch ∧
      ∀ p, (t.port p).switch = (s.port p).switch ∧ (t.port p).follow = (s.port p).follow) ∧
    (writesMasks c = false → t.fnu.mask1 = s.fnu.mask1 ∧ t.fnu.mask2 = s.fnu.mask2 ∧ t.fnu.noticeMask = s.fnu.noticeMask))

/-- R18: after power-on reset every descriptor is EMPTY with layout fields 0; RESET BRIDGE, host port reset, shelf port reset and every
other command but LOAD, ACTIVATE and DEACTIVATE GROUP leave the Group Table as it was, whatever becomes of the ports. -/
def Obligations.GroupTableAcrossResets : Prop :=
  (∀ s t : State, exec .resetnAssert s = .next t → ∀ g, t.group g = none) ∧
  (∀ s t : State, s.resetn = true → exec .resetnRelease s = .next t → ∀ g, t.group g = none) ∧
  (∀ g, groupBytes g none = le1 g ++ zeros 7) ∧
  ∀ (c : Instr) (s t : State), writesGroups c = false → exec c s = .next t → t.lmu.groups = s.lmu.groups

/-- R34: after power-on reset the Initiator Table is free and a CONTROL on HP0 passes check 3; RESET BRIDGE, host port reset, shelf port
reset and every command not named as a writer leave it as it was, flags included. -/
def Obligations.InitiatorTableAcrossResets : Prop :=
  (∀ s t : State, exec .resetnAssert s = .next t → t.cau.initiators = []) ∧
  (∀ s t : State, s.resetn = true → exec .resetnRelease s = .next t → t.cau.initiators = [] ∧
    ∀ r : CommandRecord, r.kind = .control → t.check3 .hp0 r = true) ∧
  ∀ (c : Instr) (s t : State), writesInitiators c = false → exec c s = .next t → t.cau = s.cau

/-- R29: power-on reset empties both admission queues; a host port reset empties its own port's queue alone, with no status; RESET BRIDGE
answers every queued command on both ports ABORTED and empties both; a shelf port reset touches neither. -/
def Obligations.AdmissionQueuesAcrossResets : Prop :=
  (∀ s t : State, exec .resetnAssert s = .next t → ∀ p, t.queue p = []) ∧
  (∀ s t : State, s.resetn = true → exec .resetnRelease s = .next t → ∀ p, t.queue p = []) ∧
  (∀ (s t : State) (p : HostPort), s.resetn = false → exec (.hostPortReset p) s = .next t →
    t.queue p = [] ∧ t.queue p.other = s.queue p.other ∧ t.hostOut = s.hostOut) ∧
  (∀ s t : State, s.accepts .resetBridge → s.mgu.queue ≠ [] → exec .resetBridge s = .next t →
    (∀ p, t.queue p = []) ∧
    ∃ sent, t.hostOut = s.hostOut ++ sent ∧
      ((s.queue .hp0).map (fun r => (HostPort.hp0, plainStatus r.tag .aborted))
        ++ (s.queue .hp1).map (fun r => (HostPort.hp1, plainStatus r.tag .aborted))).Subperm sent) ∧
  (∀ (s t : State) (n : Nat), exec (.resetShelfPort n) s = .next t → ∀ p, t.queue p = s.queue p)

/-- Only a scrub visit sets a fence, only LOAD EXTENTS clears one, and RESETn clears all; a record of a FENCED section keeps its stored value
through every command but LOAD EXTENTS, a fault of the map memory and RESETn. -/
def Obligations.FencesAndFencedRecordsHaveNamedWriters : Prop :=
  (∀ (c : Instr) (s t : State) (k : Nat), exec c s = .next t →
    (writesFences c = false → (t.sect k).fenced = (s.sect k).fenced) ∧
    (c = .scrubVisit → (s.sect k).fenced = true → (t.sect k).fenced = true) ∧
    ((∃ v f l, c = .loadExtents v f l) → (t.sect k).fenced = true → (s.sect k).fenced = true)) ∧
  (∀ (c : Instr) (s t : State) (i : Nat), i < 65536 → writesFencedRecords c = false → exec c s = .next t →
    s.fencedAt i = true → t.recAt i = s.recAt i)

/-- A record's generation changes only by one, at a completion or a MIGRATE, and its owner tag not at all, outside LOAD EXTENTS, GROW
VOLUME, a fault of the map memory and RESETn. -/
def Obligations.GenerationsAdvanceByOne : Prop :=
  ∀ (c : Instr) (s t : State) (i : Nat), exec c s = .next t →
    (rewritesVersions c = false →
      (t.recAt i).tag = (s.recAt i).tag ∧ ((t.recAt i).gen = (s.recAt i).gen ∨ (t.recAt i).gen = (s.recAt i).gen + 1)) ∧
    (advancesVersions c = false → (t.recAt i).gen = (s.recAt i).gen)

/-- A condition once set stays set until CLEAR FAULTS or RESETn, and a notice once pending stays pending until READ NOTICES, RESET BRIDGE
or RESETn. -/
def Obligations.ConditionsAndNoticesStand : Prop :=
  ∀ (c : Instr) (s t : State), exec c s = .next t →
    (clearsConditions c = false → ∀ i, s.condAt i = true → t.condAt i = true) ∧
    (clearsNotices c = false → ∀ n : Notice, s.pendingNotice n = true → t.pendingNotice n = true)

/-! ### What the slots do at the end of an event -/

/-- The end of an event does nothing to a slot that is not due, and carries out what is due at one, touching no other slot: a retire, an
abandon and an ENDING slot go FREE with their holds released and notices raised; a pass within the threshold or at the pass limit is followed
by CUTOVER, and any other by the next pass, or may wait while commands stand on the re-entry list; a slot in CUTOVER issues its target flush,
which ends the move with TARGET-ERROR if a port of it is not ONLINE; its records leave, and are kept, in rising order of the ports, which is
the model's order (log 11; R52, R64, R66, R68, R69, R72, R74, R115).
Model's choices in it: logs 9 and 11. -/
def Obligations.DueSlotsAreFinished : Prop :=
  (∀ s : State, (∀ i, i < 4 → s.slotDue i = false) → s.settle = s) ∧
  (∀ (s : State) (i : Nat), (s.slotDue i = false → s.settleSlot i = s) ∧ ∀ j, j ≠ i → (s.settleSlot i).slot j = s.slot j) ∧
  (∀ (s : State) (i : Nat) (c : Claim), (s.slot i).claim = some c → s.slotDue i = true →
    (c.state = .retiring → s.settleSlot i = ((s.release c.source (.retiring i)).freeSlot i).raise .moveDone) ∧
    (∀ m, c.state = .abandoning → c.move = some m →
      s.settleSlot i = ((s.release m.target (.target i)).freeSlot i).raise .moveAbandoned) ∧
    (c.state = .ending → s.settleSlot i = s.freeSlot i) ∧
    (∀ m, c.state = .copying → c.move = some m →
      let goesOn := fun d : Claim =>
        (s.fre.reentry = [] → s.settleSlot i = (s.setClaim i d).settleSlot i) ∧
        (s.fre.reentry ≠ [] → s.settleSlot i = s.setFreeCount (s.freeCount + 1) ∨
          s.settleSlot i = ((s.setFreeCount (s.freeCount + 1)).setClaim i d).settleSlot i)
      let inCutover := { c with state := .cutover, move := some { m with timer := some s.mgc.cutoverTimeout } }
      (c.dirtyCount ≤ s.mgc.threshold ∨ s.mgc.passLimit ≤ m.pass → goesOn inCutover ∧
        (c.dirtyCount ≠ 0 →
          (s.fre.reentry = [] → s.settleSlot i = s.setClaim i inCutover) ∧
          (s.fre.reentry ≠ [] →
            s.settleSlot i = s.setFreeCount (s.freeCount + 1) ∨
            s.settleSlot i = (s.setFreeCount (s.freeCount + 1)).setClaim i inCutover))) ∧
      (s.mgc.threshold < c.dirtyCount → m.pass < s.mgc.passLimit → s.mgc.passLimit ≤ 15 →
        goesOn { c with move := some { m with pass := m.pass + 1, sweep := 0 } })) ∧
    (∀ m, c.state = .cutover → c.move = some m →
      let ports := (s.layout m.target.group).ports
      let up := ports.filter (fun p => decide ((s.port p).state = .online))
      let seq := (s.slot i).flushSeq + 1
      ∃ u : State,
        u.slot i = { s.slot i with
          flushSeq := seq, claim := some { c with move := some { m with timer := none, flushOut := ports.length } } } ∧
        (∀ j, j ≠ i → u.slot j = s.slot j) ∧
        u = { s with
          mgc := { s.mgc with
            slots := u.mgc.slots,
            flushFrags := s.mgc.flushFrags ++ up.map (fun p => { slot := i, seq := seq, port := p, timer := s.fre.timeout * 1000 }) },
          acg := { s.acg with copyCounts := up.foldl countUp s.acg.copyCounts },
          shelfOut := s.shelfOut ++ up.map (fun p => (p, .fragment (.slotFlush (Fin.ofNat 4 i) seq) .flush none 0 0 [])) } ∧
        (up = ports → s.settleSlot i = u) ∧
        (up ≠ ports → s.settleSlot i = (u.abandon i .targetError).settleSlot i))) ∧
  (∀ (s : State) (i : Nat),
    (s.freeSlot i).slot i = { s.slot i with claim := none, pause := false } ∧ (∀ j, j ≠ i → (s.freeSlot i).slot j = s.slot j))

/-! ### Admission -/

/-- R27: a command record joins the tail of its port's queue, or is answered QUEUE-FULL at once at 128, whatever its tag, with the queue
unchanged; a command leaves its queue by being taken, by a host port reset of its port or by RESET BRIDGE (or RESETn). -/
def Obligations.ArrivingCommandJoinsItsQueue : Prop :=
  (∀ (s : State) (p : HostPort) (r : CommandRecord), s.resetn = false →
    ((s.queue p).length < 128 → exec (.commandRecord p r) s = .next (s.setQueue p (s.queue p ++ [r]))) ∧
    (¬ (s.queue p).length < 128 →
      exec (.commandRecord p r) s = .next { s with hostOut := s.hostOut ++ [(p, plainStatus r.tag .queueFull)] })) ∧
  (∀ (c : Instr) (s t : State) (p : HostPort), exec c s = .next t → (s.queue p).length ≤ 128 → (t.queue p).length ≤ 128) ∧
  (∀ (c : Instr) (s t : State) (p : HostPort), exec c s = .next t → c ≠ .takeQueueHead p → c ≠ .hostPortReset p → c ≠ .resetBridge →
    isPowerReset c = false → ∃ new, t.queue p = s.queue p ++ new)

/-- A command taken from its queue is answered by the first of checks 1 to 6 that it fails: INVALID-REQUEST, NOT-READY, ACCESS-DENIED,
SIZE-CHANGED (and its flag is cleared), OUT-OF-RANGE, MAP-FAULT; nothing else changes but what is due at a slot.
Model's choices in it: log 9. -/
def Obligations.AdmissionAnswersAtTheFirstFailedCheck : Prop :=
  ∀ (s : State) (p : HostPort) (r : CommandRecord) (rest : List CommandRecord),
    s.resetn = false → s.queue p = r :: rest → s.headTurn p = true →
    let answered := fun st => Host.Outcome.next (ρ := Refusal) (φ := Fault) ((s.taken p rest).sendHost p (plainStatus r.tag st)).settle
    (s.check1 p r = false → exec (.takeQueueHead p) s = answered .invalidRequest) ∧
    (s.check1 p r = true →
      (s.check2 r = false → exec (.takeQueueHead p) s = answered .notReady) ∧
      (s.check2 r = true →
        (s.check3 p r = false → exec (.takeQueueHead p) s = answered .accessDenied) ∧
        (s.check3 p r = true → r.kind ≠ .control →
          (s.sizePending p r = true → r.kind ≠ .size → exec (.takeQueueHead p) s =
            .next (((s.taken p rest).clearPending p r).sendHost p (plainStatus r.tag .sizeChanged)).settle) ∧
          (s.sizePending p r = false → hasRange r.kind = true → ∀ v, s.volume r.volume.toNat = some v →
            (v.capacity < r.start.toNat + r.length.toNat → exec (.takeQueueHead p) s = answered .outOfRange) ∧
            (r.start.toNat + r.length.toNat ≤ v.capacity →
              (touchedExtents r.start.toNat r.length.toNat).any (fun x => s.fencedAt (v.mapBase + x)) = true →
              exec (.takeQueueHead p) s = answered .mapFault)))))

/-- A SIZE is answered GOOD with the capacity and its flag cleared; a CONTROL joins the management queue in state MANAGING, or is answered
BUSY-RETRY at eight; a FORMAT, and a DISCARD or FLUSH whose kind is in the volume's divert set, is diverted into the lowest free entry with
DIVERSION-PENDING raised if it is the first, or answered BUSY-RETRY when all sixteen are in use (R39, R44, R119 to R122).
Model's choices in it: logs 9, 12 and 26. -/
def Obligations.SizeControlAndFormatAreAdmitted : Prop :=
  ∀ (s : State) (p : HostPort) (r : CommandRecord) (rest : List CommandRecord),
    s.resetn = false → s.queue p = r :: rest → s.headTurn p = true → s.check1 p r = true → s.check2 r = true → s.check3 p r = true →
    (∀ v, r.kind = .size → s.volume r.volume.toNat = some v → exec (.takeQueueHead p) s =
      .next (((s.taken p rest).clearPending p r).sendHost p { plainStatus r.tag .good with capacity := some v.capacity }).settle) ∧
    (r.kind = .control →
      (s.mgu.load < 8 → ∃ e, Tbl.lowestFree s.fre.commands 512 0 = some e ∧ exec (.takeQueueHead p) s =
        .next (((s.taken p rest).setCommand e { record := r, port := p, state := .managing }).setMgu
          { s.mgu with queue := s.mgu.queue ++ [e] }).settle) ∧
      (8 ≤ s.mgu.load → exec (.takeQueueHead p) s =
        .next ((s.taken p rest).sendHost p (plainStatus r.tag .busyRetry)).settle)) ∧
    ((r.kind = .format ∨ (∃ v, s.volume r.volume.toNat = some v ∧
        ((r.kind = .discard ∧ v.divertDiscard = true) ∨ (r.kind = .flush ∧ v.divertFlush = true)))) →
      s.sizePending p r = false →
      (∀ v, r.kind = .discard → s.volume r.volume.toNat = some v → r.start.toNat + r.length.toNat ≤ v.capacity ∧
        ∀ x ∈ touchedExtents r.start.toNat r.length.toNat, s.fencedAt (v.mapBase + x) = false) →
      (Tbl.lowestFree s.dvq.entries 16 0 = none → exec (.takeQueueHead p) s =
        .next ((s.taken p rest).sendHost p (plainStatus r.tag .busyRetry)).settle) ∧
      (∀ n, Tbl.lowestFree s.dvq.entries 16 0 = some n → ∃ (e : Nat) (w : State), Tbl.lowestFree s.fre.commands 512 0 = some e ∧
        exec (.takeQueueHead p) s = .next w.settle ∧
        w = ((if s.dvq.entries = [] then (s.taken p rest).raise .diversionPending else s.taken p rest).setCommand e
            { record := r, port := p, state := .diverted }).setDvq { s.dvq with
          entries := Tbl.ins s.dvq.entries n { entry := e, time := s.dvq.timeCount, timer := s.dvq.timeout * 1000 },
          useCounts := w.dvq.useCounts, order := s.dvq.order ++ [n] } ∧
        ∀ k, Tbl.getD w.dvq.useCounts k 0 = Tbl.getD s.dvq.useCounts k 0 + (if k = n then 1 else 0)))

/-- A command that passes the checks draws its fragments. A READ, WRITE or DISCARD of one block of a PLAIN or MOVING extent, or of a CLEAN
chunk of a ZEROING one, draws one, reported to the slot of a MOVING extent and sent to the drive block that the translation gives; with that
drive ABSENT it completes NOT-PRESENT at once and the command is answered DEVICE-ERROR. A READ of ZERO extents, and a READ or DISCARD of one
block of a ZEROING chunk not yet CLEAN, is answered GOOD with nothing sent, a READ with zeros. A FLUSH draws one fragment for each ONLINE port,
and a range on PLAIN extents one for each piece: the range is cut at every unit boundary and nowhere else (R43 to R47, R54).
Model's choices in it: logs 8, 9, 12 and 27. -/
def Obligations.OneBlockCommandSendsOneFragment : Prop :=
  (∀ (s : State) (p : HostPort) (r : CommandRecord) (rest : List CommandRecord), s.resetn = false → s.queue p = r :: rest →
    s.headTurn p = true → s.check1 p r = true → s.check2 r = true → s.check3 p r = true → s.sizePending p r = false →
    s.diverts r = false →
    let c : Command := { record := r, port := p, state := .waiting }
    let answered := fun x => Host.Outcome.next (ρ := Refusal) (φ := Fault) ((s.taken p rest).sendHost p x).settle
    (∀ v n, s.OneBlockReady r v n → ∃ (e : Nat) (w : State), Tbl.lowestFree s.fre.commands 512 0 = some e ∧
      exec (.takeQueueHead p) s = .next w.settle ∧ (s.taken p rest).SendsOne w e n c v) ∧
    (∀ v n, s.OneBlockDraws r v n → s.drivePresent (s.placeOf v r).port (s.placeOf v r).drive = false →
      (∀ i d, i < 4 → (s.slot i).claim = some d → n ∉ d.drain) →
      ∃ w : State, exec (.takeQueueHead p) s = .next w.settle ∧
        w.hostOut = s.hostOut ++ [(p, { plainStatus r.tag .deviceError with
          reason := some .notPresent, failingBlock := some r.start.toNat })] ∧
        (∀ e, w.command e = s.command e) ∧ (∀ k, w.frag k = s.frag k ∧ w.fragUse k = s.fragUse k + (if k = n then 1 else 0)) ∧
        (∀ i, (w.slot i).readCount = (s.slot i).readCount ∧ ∀ k, (w.slot i).writes k = (s.slot i).writes k) ∧
        (s.markOf v r = none → w.mgc = s.mgc) ∧
        w = { s.taken p rest with
          fre := { s.fre with commands := w.fre.commands, frags := w.fre.frags, useCounts := w.fre.useCounts },
          mgc := { s.mgc with slots := w.mgc.slots }, hostOut := w.hostOut }) ∧
    (∀ v, r.kind = .read → s.volume r.volume.toNat = some v → r.start.toNat + r.length.toNat ≤ v.capacity →
      (∀ x ∈ touchedExtents r.start.toNat r.length.toNat,
        s.fencedAt (v.mapBase + x) = false ∧ (s.recAt (v.mapBase + x)).state = .zero) →
      exec (.takeQueueHead p) s = answered { plainStatus r.tag .good with data := List.replicate r.length.toNat 0 }) ∧
    (∀ v, r.kind = .read ∨ r.kind = .discard → r.length = 1 → s.volume r.volume.toNat = some v → r.start.toNat < v.capacity →
      let idx := v.mapBase + r.start.toNat / extentBlocks
      s.fencedAt idx = false → (s.recAt idx).state = .zeroing → s.chunkAt (s.recAt idx) idx (s.placeOf v r).chunk ≠ .clean →
      exec (.takeQueueHead p) s = answered { plainStatus r.tag .good with data := if r.kind = .read then [0] else [] }) ∧
    (r.kind = .flush → s.onlinePorts ≠ [] → ∃ (e : Nat) (w : State), Tbl.lowestFree s.fre.commands 512 0 = some e ∧
      exec (.takeQueueHead p) s = .next w.settle ∧
      (s.taken p rest).Issues w e c (s.onlinePorts.map (fun q => { kind := .flush, port := q, addr := none, mark := none }))) ∧
    (∀ v, hasRange r.kind = true → s.volume r.volume.toNat = some v → r.start.toNat + r.length.toNat ≤ v.capacity →
      (∀ x ∈ touchedExtents r.start.toNat r.length.toNat,
        s.fencedAt (v.mapBase + x) = false ∧ (s.recAt (v.mapBase + x)).state = .plain) →
      let ds := (s.cut v.mapBase r.length.toNat r.start.toNat r.length.toNat).map (s.pieceDraw (fragKindOf r.kind))
      (∀ d ∈ ds, ∀ a ∈ d.addr, s.drivePresent d.port a.drive = true) →
      ∃ (e : Nat) (w : State), Tbl.lowestFree s.fre.commands 512 0 = some e ∧ exec (.takeQueueHead p) s = .next w.settle ∧
        (s.taken p rest).Issues w e c ds)) ∧
  (∀ (s : State) (base start len : Nat),
    let qs := s.cut base len start len
    let unit := fun q : Piece => (s.layout (s.recAt q.index).group.toNat).unit.blocks
    (qs.map (fun q => q.count)).sum = len ∧
    ∀ j q, qs[j]? = some q → q.vbn = start + ((qs.take j).map (fun q => q.count)).sum ∧ q.index = base + q.vbn / extentBlocks ∧
      q.off = q.vbn % extentBlocks ∧ 0 < q.count ∧ q.off % unit q + q.count ≤ unit q ∧
      (j + 1 < qs.length → q.off % unit q + q.count = unit q))

/-- Check 8. A WRITE or DISCARD of one block of a ZERO extent claims the lowest FREE slot, whose record becomes ZEROING: the WRITE is parked on
it with nothing sent, the DISCARD draws no fragment and is answered GOOD; with no slot FREE it is answered BUSY-RETRY and SLOT-SHORTAGE is
raised. A one-block WRITE or DISCARD of an extent MOVING by a slot in
CUTOVER, and a WRITE to a ZEROING chunk not yet CLEAN, is parked at the tail of the slot's hold list, or at 32 commands there answered
BUSY-RETRY with HOLD-OVERFLOW raised (R40, R67, R105, R106).
Model's choices in it: logs 9, 12 and 27. -/
def Obligations.WriteToZeroExtentClaimsASlot : Prop :=
  ∀ (s : State) (p : HostPort) (r : CommandRecord) (rest : List CommandRecord) (v : Volume) (idx : Nat),
    s.resetn = false → s.queue p = r :: rest → s.headTurn p = true → s.check1 p r = true → s.check2 r = true → s.check3 p r = true →
    s.sizePending p r = false → s.diverts r = false → r.kind = .write ∨ r.kind = .discard → r.length = 1 →
    s.volume r.volume.toNat = some v → r.start.toNat < v.capacity →
    idx = v.mapBase + r.start.toNat / extentBlocks → s.fencedAt idx = false →
    (∀ (i : Fin 4) (c : Claim), (s.recAt idx).slot = some i → (s.slot i.val).claim = some c →
      ((s.recAt idx).state = .moving ∧ c.state = .cutover) ∨
        ((s.recAt idx).state = .zeroing ∧ r.kind = .write ∧ c.chunk (s.placeOf v r).chunk ≠ .clean) →
      (c.hold.length < 32 → ∃ e, Tbl.lowestFree s.fre.commands 512 0 = some e ∧ exec (.takeQueueHead p) s =
        .next (((s.taken p rest).setClaim i.val { c with hold := c.hold ++ [e] }).setCommand e
          { record := r, port := p, state := .parked }).settle) ∧
      (32 ≤ c.hold.length → exec (.takeQueueHead p) s =
        .next (((s.taken p rest).sendHost p (plainStatus r.tag .busyRetry)).raise .holdOverflow).settle)) ∧
    ((s.recAt idx).state = .zero → s.freeSlotNo = none → exec (.takeQueueHead p) s =
      .next (((s.taken p rest).sendHost p (plainStatus r.tag .busyRetry)).raise .slotShortage).settle) ∧
    (∀ i, (s.recAt idx).state = .zero → s.freeSlotNo = some i →
      ∃ (e : Nat) (w : State), Tbl.lowestFree s.fre.commands 512 0 = some e ∧ exec (.takeQueueHead p) s = .next w.settle ∧
        (s.taken p rest).ClaimsZero w e { record := r, port := p, state := .waiting } v i)

/-- The oldest command on the re-entry list waits while the pool does not cover its need; served, it is answered MAP-FAULT if it touches a
fence, a FLUSH with no port ONLINE is answered GOOD and one with ports ONLINE sends a fragment to each, and a READ, WRITE or DISCARD of one
block of an extent that takes it draws and sends its fragment. A WRITE or DISCARD of one block is parked again on a slot in CUTOVER, or (a
WRITE) on one whose chunk is not yet CLEAN, answered BUSY-RETRY with HOLD-OVERFLOW if 32 are held there, or claims a slot for a ZERO extent,
answered BUSY-RETRY with SLOT-SHORTAGE if none is FREE (R40, R41, R106).
Model's choices in it: logs 8, 9 and 27. -/
def Obligations.ReentryServesTheOldestCommand : Prop :=
  ∀ (s : State) (e : Nat) (point : EntryPoint) (rest : List (Nat × EntryPoint)) (c : Command),
    s.resetn = false → s.fre.reentry = (e, point) :: rest → s.command e = some c →
    let left := s.setFre { s.fre with reentry := rest }
    (s.freeFrags < s.need c.record → exec .serveReentry s = .next s) ∧
    (s.need c.record ≤ s.freeFrags →
      (s.fencedFor c.record = true → exec .serveReentry s =
        .next ((left.dropCommand e).sendHost c.port (plainStatus c.record.tag .mapFault)).settle) ∧
      (c.record.kind = .flush → s.onlinePorts = [] → exec .serveReentry s =
        .next ((left.dropCommand e).sendHost c.port (plainStatus c.record.tag .good)).settle) ∧
      (c.record.kind = .flush → s.onlinePorts ≠ [] → ∃ w : State, exec .serveReentry s = .next w.settle ∧
        left.Issues w e c (s.onlinePorts.map (fun q => { kind := .flush, port := q, addr := none, mark := none }))) ∧
      (∀ v n, s.OneBlockReady c.record v n → c.record.data.length ≤ 1 →
        ∃ w : State, exec .serveReentry s = .next w.settle ∧ left.SendsOne w e n c v) ∧
      (∀ v, c.record.kind = .write ∨ c.record.kind = .discard → c.record.length = 1 → s.volume c.record.volume.toNat = some v →
        let x := s.recAt (v.mapBase + c.record.start.toNat / extentBlocks)
        s.fencedAt (v.mapBase + c.record.start.toNat / extentBlocks) = false →
        (∀ (i : Fin 4) (cl : Claim), x.slot = some i → (s.slot i.val).claim = some cl →
          (x.state = .moving ∧ cl.state = .cutover) ∨
            (x.state = .zeroing ∧ c.record.kind = .write ∧ cl.chunk (s.placeOf v c.record).chunk ≠ .clean) →
          (cl.hold.length < 32 → exec .serveReentry s =
            .next ((left.setClaim i.val { cl with hold := cl.hold ++ [e] }).setCommand e { c with state := .parked }).settle) ∧
          (32 ≤ cl.hold.length → exec .serveReentry s =
            .next (((left.dropCommand e).sendHost c.port (plainStatus c.record.tag .busyRetry)).raise .holdOverflow).settle)) ∧
        (x.state = .zero → s.freeSlotNo = none → exec .serveReentry s =
          .next (((left.dropCommand e).sendHost c.port (plainStatus c.record.tag .busyRetry)).raise .slotShortage).settle) ∧
        (∀ i, x.state = .zero → s.freeSlotNo = some i →
          ∃ w : State, exec .serveReentry s = .next w.settle ∧ left.ClaimsZero w e c v i)))

/-- A host port reset removes the commands of its port wherever they stand, with no status: from its queue, the Command Table, the hold
lists, the Diversion Queue, the re-entry list and the management queue; a request of its own at the head may run to its end without its
CONTROL; their fragments are orphaned, and the link-reset count rises to at most 255; then the end of the event is carried out (R49, R128,
R157, R168).
Model's choices in it: logs 9 and 26. -/
def Obligations.HostPortResetRemovesThePortsCommands : Prop :=
  ∀ (s : State) (p : HostPort), s.resetn = false → s.TablesInOrder →
    let gone := fun e => (s.command e).any (fun c => decide (c.port = p))
    ∃ t : State, exec (.hostPortReset p) s = .next t.settle ∧
      t.queue p = [] ∧ t.queue p.other = s.queue p.other ∧
      (∀ e, t.command e = if gone e then none else s.command e) ∧
      t.fre.reentry = s.fre.reentry.filter (fun q => !gone q.1) ∧ t.mgu.queue = s.mgu.queue.filter (fun e => !gone e) ∧
      (∀ x, s.mgu.orphan = some x → t.mgu.orphan = some x) ∧
      (∀ e rest c, s.mgu.orphan = none → s.mgu.queue = e :: rest → s.command e = some c → c.port = p →
        t.mgu.orphan = none ∨ t.mgu.orphan = some c.record) ∧
      (s.mgu.orphan = none → (∀ e rest c, s.mgu.queue = e :: rest → s.command e = some c → c.port ≠ p) → t.mgu.orphan = none) ∧
      (∀ i, i < 4 → t.slot i = { s.slot i with
        claim := (s.slot i).claim.map (fun c => { c with hold := c.hold.filter (fun e => !gone e) }) }) ∧
      (∀ n, t.frag n = (s.frag n).map (fun f => if f.owner.any gone then { f with owner := none } else f)) ∧
      (∀ n, Tbl.find t.dvq.entries n = (Tbl.find s.dvq.entries n).filter (fun d => !gone d.entry)) ∧
      (∀ n, n ∈ t.dvq.order ↔ n ∈ s.dvq.order ∧ ∀ d, Tbl.find s.dvq.entries n = some d → gone d.entry = false) ∧
      t.linkResets p = min 255 (s.linkResets p + 1) ∧ t.linkResets p.other = s.linkResets p.other ∧
      t = { s with
        hli := { t.hli with servedLast := s.hli.servedLast },
        fre := { s.fre with commands := t.fre.commands, reentry := t.fre.reentry, frags := t.fre.frags },
        mgc := { s.mgc with slots := t.mgc.slots }, dvq := { s.dvq with entries := t.dvq.entries, order := t.dvq.order },
        mgu := t.mgu, fnu := { s.fnu with resets0 := t.fnu.resets0, resets1 := t.fnu.resets1 }, freeCount := t.freeCount }

/-! ### Completions and timers -/

/-- A record arriving on a port that is not ONLINE, or with a handle that nothing in flight on the port carries, completes nothing. A fragment
completes OK or MEDIUM-ERROR by its record, or TIMEOUT by its timer, which sets FRAGMENT-TIMEOUT: it is back in the pool, out of every drain
and of its slot's counts, and its command, if ISSUED, keeps its data and the lowest failure, and at its last fragment is answered ABORTED, GOOD
with a READ's data, or DEVICE-ERROR with the failing block or port (R46, R48, R49, R55, R57, R144).
Model's choices in it: logs 2 and 9. -/
def Obligations.HostFragmentCompletions : Prop :=
  (∀ (s : State) (p : Fin 8) (r : CompletionRecord), s.resetn = false → (s.port p.val).state ≠ .online →
    exec (.shelfCompletionRecord p r) s = .next s) ∧
  (∀ (s : State) (p : Fin 8) (n : Fin 4096) (use outcome : Byte) (data : List Block), s.resetn = false → (s.port p.val).state = .online →
    (∀ f, s.frag n.val = some f → f.port ≠ p.val ∨ s.fragUse n.val ≠ use) →
    exec (.shelfCompletionRecord p { handle := .pool n use, outcome := outcome, data := data }) s = .next s.settle) ∧
  (∀ (s : State) (p : Fin 8) (n : Fin 4096) (f : Fragment), s.resetn = false → s.frag n.val = some f → f.port = p.val →
    (∀ data, (s.port p.val).state = .online → (f.kind = .read → ∀ a ∈ f.addr, data.length = a.count) →
      ∃ w : State, exec (.shelfCompletionRecord p { handle := .pool n (s.fragUse n.val), outcome := 0, data := data }) s = .next w.settle ∧
        s.FragmentEnds w n.val .ok data) ∧
    (∀ (outcome : Byte) (data : List Block), (s.port p.val).state = .online → outcome ≠ 0 →
      ∃ w : State, exec (.shelfCompletionRecord p { handle := .pool n (s.fragUse n.val), outcome := outcome, data := data }) s =
          .next w.settle ∧ s.FragmentEnds w n.val .mediumError data) ∧
    (∃ w : State, exec (.fragmentTimerExpiry n) s = .next w.settle ∧
      (s.setCond (.fragmentTimeout p)).FragmentEnds w n.val .timeout [])) ∧
  (∀ (s : State) (n : Fin 4096), s.resetn = false → s.frag n.val = none → exec (.fragmentTimerExpiry n) s = .next s)

/-- A lane fragment completes by its record, or TIMEOUT by its timer, which sets FRAGMENT-TIMEOUT: it leaves the lane, an error is the phase
failure if none stands, and read data is placed in the chunk buffer. The last read of a copy that has not failed and is not marked begins the
writes: one for each unit of the chunk, of the data read; a failed or marked one gives up the buffer. The last fragment of a STOPPING lane
frees it. A target flush fragment ends by its record or timer: at the slot that awaits it an error or TIMEOUT abandons the move with
TARGET-ERROR, an OK that is not the last lowers the count; anywhere else nothing changes at a slot (R70, R83, R84, R88).
Model's choices in it: logs 2 and 9. -/
def Obligations.LaneAndFlushFragmentTimers : Prop :=
  (∀ (s : State) (l : Fin 4) (f : LaneFrag) (p : Fin 8) (ev : Instr) (u : State) (o : FragOutcome) (data : List Block), s.resetn = false →
    f.port = p.val →
    ((∃ (piece : Fin 64) (outcome : Byte), (s.port p.val).state = .online ∧
        ev = .shelfCompletionRecord p { handle := .lane l f.seq f.phase piece, outcome := outcome, data := data } ∧
        (s.lane l.val).frags.find? (fun g => decide (g.port = p.val ∧ g.seq = f.seq ∧ g.phase = f.phase ∧ g.piece = piece.val)) = some f ∧
        u = s ∧ o = (if outcome = 0 then .ok else .mediumError) ∧ (o = .ok → f.phase = .reading → data.length = f.count)) ∨
      (∃ piece : Fin 64, ev = .laneFragmentTimerExpiry l piece ∧
        (s.lane l.val).frags.find? (fun g => decide (g.piece = piece.val)) = some f ∧ u = s.setCond (.fragmentTimeout p) ∧
        o = .timeout)) →
    let ln := s.lane l.val
    let rest := ln.frags.erase f
    let failure := if o = .ok then ln.failure else some (ln.failure.getD o)
    let placed := fun b => ∀ k, Tbl.getD b k (0 : Block) =
      if o = .ok ∧ f.phase = .reading ∧ ln.state = .reading ∧ f.piece * f.count ≤ k ∧ k < f.piece * f.count + f.count then
        data.getD (k - f.piece * f.count) 0 else Tbl.getD ln.buffer k 0
    (rest = [] → ln.state = .stopping → exec ev s = .next (u.setLane l.val { Lane.initial with seq := ln.seq }).settle) ∧
    (rest = [] → ln.state = .reading → failure.isSome = true ∨ ln.cancel = true →
      exec ev s = .next (u.setLane l.val { ln with frags := [], failure := failure, buffer := [] }).settle) ∧
    (rest ≠ [] ∨ (ln.state ≠ .reading ∧ ln.state ≠ .stopping) → ∃ b, placed b ∧
      exec ev s = .next (u.setLane l.val { ln with frags := rest, failure := failure, buffer := b }).settle) ∧
    (∀ t k, rest = [] → ln.state = .reading → failure = none → ln.cancel = false → ln.op ≠ some .zeroFill → ln.target = some t →
      ln.chunk = some k →
      let lay := s.layout t.group
      let un := lay.unit.blocks
      let at' := fun j => translate lay t.band (k * chunkBlocks + j * un)
      (∀ j, j < chunkBlocks / un → s.drivePresent (at' j).port (at' j).drive = true) →
      ∃ (w : State) (b : Tbl Block), exec ev s = .next w.settle ∧ placed b ∧
        w = { s with
          cpm := w.cpm,
          acg := { s.acg with copyCounts := (List.range (chunkBlocks / un)).foldl (fun x j => countUp x (at' j).port) s.acg.copyCounts },
          shelfOut := s.shelfOut ++ (List.range (chunkBlocks / un)).map (fun j => ((at' j).port,
            .fragment (laneHandle l.val ln.seq .writing j) .write (some (at' j).drive) (at' j).dbn un
              ((List.range un).map (fun i => Tbl.getD b (j * un + i) 0)))) } ∧
        w.cpm = { s.cpm with lanes := w.cpm.lanes } ∧ (∀ n, n ≠ l.val → w.lane n = s.lane n) ∧
        w.lane l.val = { ln with
          state := .writing, failure := none, buffer := b,
          frags := (List.range (chunkBlocks / un)).map (fun j =>
            { seq := ln.seq, phase := .writing, piece := j, port := (at' j).port, drive := (at' j).drive, dbn := (at' j).dbn,
              count := un, timer := s.fre.timeout * 1000 }) })) ∧
  (∀ (s : State) (i : Fin 4) (seq : Byte) (p : Fin 8) (f : FlushFrag) (ev : Instr) (u : State) (o : FragOutcome), s.resetn = false →
    s.mgc.flushFrags.find? (fun f => decide (f.slot = i.val ∧ f.seq = seq ∧ f.port = p.val)) = some f →
    ((ev = .flushFragmentTimerExpiry i seq p ∧ u = s.setCond (.fragmentTimeout p) ∧ o = .timeout) ∨
      (∃ (outcome : Byte) (data : List Block), (s.port p.val).state = .online ∧
        ev = .shelfCompletionRecord p { handle := .slotFlush i seq, outcome := outcome, data := data } ∧ u = s ∧
        o = (if outcome = 0 then .ok else .mediumError))) →
    let less := u.setMgc { s.mgc with flushFrags := s.mgc.flushFrags.erase f }
    (∀ c m, (s.slot i.val).claim = some c → c.move = some m → c.state = .cutover → 0 < m.flushOut → seq = (s.slot i.val).flushSeq →
      (o ≠ .ok → exec ev s = .next (less.abandon i.val .targetError).settle) ∧
      (o = .ok → 2 ≤ m.flushOut →
        exec ev s = .next (less.setClaim i.val { c with move := some { m with flushOut := m.flushOut - 1 } }).settle)) ∧
    ((∀ c m, (s.slot i.val).claim = some c → c.move = some m → c.state ≠ .cutover ∨ m.flushOut = 0 ∨ seq ≠ (s.slot i.val).flushSeq) →
      exec ev s = .next less.settle))

/-- The abandon begins in one event: the slot is ABANDONING with the reason, its timer stopped and no flush outstanding; its held
commands rejoin the checks; its record is written PLAIN at the source with its generation kept, or kept as stored in a FENCED section;
the lanes serving it are marked (R74, R75, R87). A slot in no state to take a cause is left as it was (R73). -/
def Obligations.AbandonBeginsInOneEvent : Prop :=
  (∀ (s : State) (i : Nat) (why : Reason), (∀ c m, (s.slot i).claim = some c → c.move = some m → c.state ≠ .copying ∧ c.state ≠ .cutover) →
    s.abandon i why = s) ∧
  (∀ (s : State) (i : Nat) (why : Reason) (c : Claim) (m : Move), (s.slot i).claim = some c → c.move = some m →
    c.state = .copying ∨ c.state = .cutover →
    let t := s.abandon i why
    t.slot i = { s.slot i with
      reason := why, claim := some { c with state := .abandoning, hold := [], move := some { m with timer := none, flushOut := 0 } } } ∧
    (∀ j, j ≠ i → t.slot j = s.slot j) ∧
    t.fre.reentry = s.fre.reentry ++ c.hold.map (fun e => (e, EntryPoint.check6)) ∧ (∀ e, t.command e = s.released c.hold e) ∧
    t.recAt c.index = (if s.fencedAt c.index then s.recAt c.index else
      { s.recAt c.index with group := BitVec.ofNat 8 c.source.group, band := BitVec.ofNat 16 c.source.band, state := .plain, slot := none }) ∧
    (∀ j, j ≠ c.index → t.recAt j = s.recAt j) ∧
    (∀ l, (t.lane l).cancel = ((s.lane l).cancel || decide (l < 4 ∧ l ∈ s.servingLanes i)) ∧
      { t.lane l with cancel := (s.lane l).cancel } = s.lane l) ∧
    t = { s with
      lmu := { s.lmu with extents := t.lmu.extents }, fre := { s.fre with commands := t.fre.commands, reentry := t.fre.reentry },
      mgc := { s.mgc with slots := t.mgc.slots }, cpm := { s.cpm with lanes := t.cpm.lanes },
      msb := { s.msb with sections := t.msb.sections } })

/-- The flip: when the last target flush fragment of a slot in CUTOVER completes OK, the record moves to the target with its generation
advanced by one and its tag kept, the target's hold becomes the record's and the source's the retiring slot's (whatever stood there, which
is the model's choice for a damaged record that does not hold it: log 8), the held commands rejoin the checks, and the slot is RETIRING; for a
FENCED section the move is abandoned with MAP-FAULT instead (R20, R71).
Model's choices in it: logs 8 and 9. -/
def Obligations.LastFlushCompletionFlipsTheExtent : Prop :=
  ∀ (s : State) (i : Fin 4) (p : Fin 8) (seq : Byte) (data : List Block) (f : FlushFrag) (c : Claim) (m : Move),
    s.resetn = false → (s.port p.val).state = .online →
    s.mgc.flushFrags.find? (fun f => decide (f.slot = i.val ∧ f.seq = seq ∧ f.port = p.val)) = some f →
    (s.slot i.val).claim = some c → c.move = some m → c.state = .cutover → m.flushOut = 1 → seq = (s.slot i.val).flushSeq →
    c.source.band < 65536 → m.target.band < 65536 → c.source ≠ m.target →
    let less := s.setMgc { s.mgc with flushFrags := s.mgc.flushFrags.erase f }
    let got := exec (.shelfCompletionRecord p { handle := .slotFlush i seq, outcome := 0, data := data }) s
    (s.fencedAt c.index = true → ∃ w : State, got = .next w.settle ∧
      w = (less.setClaim i.val { c with move := some { m with flushOut := 0 } }).abandon i.val .mapFault) ∧
    (s.fencedAt c.index = false → ∃ w : State, got = .next w.settle ∧
      w.recAt c.index = { s.recAt c.index with
        group := BitVec.ofNat 8 m.target.group, band := BitVec.ofNat 16 m.target.band, state := .plain, slot := none,
        gen := (s.recAt c.index).gen + 1 } ∧
      (∀ j, j ≠ c.index → w.recAt j = s.recAt j) ∧
      w.holder m.target = some (.record c.index) ∧ w.holder c.source = some (.retiring i.val) ∧
      (∀ l, l ≠ m.target → l ≠ c.source → l.band < 65536 → w.holder l = s.holder l) ∧
      w.fre.reentry = s.fre.reentry ++ c.hold.map (fun e => (e, EntryPoint.check6)) ∧ (∀ e, w.command e = s.released c.hold e) ∧
      w.slot i.val = { s.slot i.val with
        claim := some { c with state := .retiring, hold := [], move := some { m with flushOut := 0, timer := none } } } ∧
      (w.sect (sectionOf c.index)).check = sectionCheck w.lmu.extents (sectionOf c.index) ∧
      w = { less with
        lmu := { s.lmu with extents := w.lmu.extents, bands := w.lmu.bands },
        fre := { s.fre with commands := w.fre.commands, reentry := w.fre.reentry },
        mgc := { less.mgc with slots := w.mgc.slots }, msb := { s.msb with sections := w.msb.sections } })

/-! ### Lanes and slots -/

/-- A grant is made when a lane can be granted and a slot is eligible: the lowest FREE lane to the slot chosen, urgent before normal, the
lowest-numbered in FIXED, the first above the pointer in ROTATING, which then is the pointer; otherwise nothing changes (R90, R91).
Model's choices in it: log 3. -/
def Obligations.ArbiterGrantsOneLane : Prop :=
  ∀ s : State, s.resetn = false →
    ((¬ (s.copiesInFlight < s.cpm.laneCount ∧ s.stopHold = false ∧ ∃ l, l < 4 ∧ (s.lane l).state = .free) ∨
        (∀ i, i < 4 → s.eligible i = false)) → exec .laneGrant s = .next s) ∧
    (∀ l, s.copiesInFlight < s.cpm.laneCount → s.stopHold = false → l < 4 → (s.lane l).state = .free →
      (∀ k, k < l → (s.lane k).state ≠ .free) → (∃ i, i < 4 ∧ s.eligible i = true) →
      ∃ i, i < 4 ∧ s.eligible i = true ∧
        ((∃ j, j < 4 ∧ s.eligible j = true ∧ s.request j = some .urgent) → s.request i = some .urgent) ∧
        (∀ j, j < 4 → s.eligible j = true → s.request j = s.request i →
          (s.cpm.priority = .fixed → i ≤ j) ∧
          (s.cpm.priority = .rotating → (i + 3 + 3 * s.cpm.rotation) % 4 ≤ (j + 3 + 3 * s.cpm.rotation) % 4)) ∧
        exec .laneGrant s = .next { s with cpm := { s.cpm with
          lanes := Tbl.ins s.cpm.lanes l { s.lane l with state := .granted, slot := some i },
          rotation := if s.cpm.priority = .rotating then i else s.cpm.rotation } })

/-- A slot takes its grant: with a candidate, the chunk is COPYING, the sweep of a slot in COPYING moves past it, and the lane starts the
copy with its sequence advanced, sending one fragment for each unit of the chunk (reads of the source, or writes of zeros for a zero-fill);
without one the lane goes FREE, its sequence kept (R62, R82, R83, R110).
Model's choices in it: log 9. -/
def Obligations.SlotTakesItsGrant : Prop :=
  ∀ (s : State) (i : Fin 4) (l : Nat), s.resetn = false →
    (List.range 4).find? (fun l => decide ((s.lane l).state = .granted ∧ (s.lane l).slot = some i.val)) = some l →
    (s.candidate i.val = none →
      exec (.takeGrant i) s = .next (s.setLane l { Lane.initial with seq := (s.lane l).seq }).settle) ∧
    (∀ c k, (s.slot i.val).claim = some c → s.candidate i.val = some k →
      let from' := c.source
      let lay := s.layout from'.group
      let u := lay.unit.blocks
      let at' := fun j => translate lay from'.band (k * chunkBlocks + j * u)
      let seq := (s.lane l).seq + 1
      (∀ j, j < chunkBlocks / u → s.drivePresent (at' j).port (at' j).drive = true) →
      ∃ w : State, exec (.takeGrant i) s = .next w.settle ∧
        (w.lane l).slot = some i.val ∧ (w.lane l).chunk = some k ∧ (w.lane l).seq = seq ∧ (w.lane l).failure = none ∧
        (w.lane l).cancel = false ∧ (w.lane l).frags.length = chunkBlocks / u ∧ (∀ n, n ≠ l → w.lane n = s.lane n) ∧
        (∀ m, c.move = some m →
          w.slot i.val = { s.slot i.val with claim := some { c.setChunk k .copying with
            move := some (if c.state = .copying then { m with sweep := k + 1 } else m) } } ∧
          (w.lane l).state = .reading ∧ (w.lane l).op = some .copy ∧ (w.lane l).source = some c.source ∧
          (w.lane l).target = some m.target ∧
          w.shelfOut = s.shelfOut ++ (List.range (chunkBlocks / u)).map (fun j => ((at' j).port,
            .fragment (laneHandle l seq .reading j) .read (some (at' j).drive) (at' j).dbn u []))) ∧
        (c.move = none →
          w.slot i.val = { s.slot i.val with claim := some (c.setChunk k .copying) } ∧
          (w.lane l).state = .writing ∧ (w.lane l).op = some .zeroFill ∧ (w.lane l).source = none ∧
          (w.lane l).target = some c.source ∧
          w.shelfOut = s.shelfOut ++ (List.range (chunkBlocks / u)).map (fun j => ((at' j).port,
            .fragment (laneHandle l seq .writing j) .write (some (at' j).drive) (at' j).dbn u (List.replicate u 0)))) ∧
        (∀ n, n ≠ i.val → w.slot n = s.slot n) ∧
        w = { s with
          mgc := { s.mgc with slots := w.mgc.slots }, cpm := { s.cpm with lanes := w.cpm.lanes },
          acg := { s.acg with copyCounts := w.acg.copyCounts }, shelfOut := w.shelfOut })

/-- A finished copy frees its lane, its sequence kept, and its slot takes the outcome: OK makes a COPYING chunk CLEAN and a STALE one
DIRTY, an error abandons a move; a failed zero-fill sets ZERO-WRITE-FAULT, returns its chunk to DIRTY and pauses the slot; the last
zero-fill makes the record PLAIN and the slot FREE with ZERO-DONE, and an earlier one makes its chunk CLEAN; each releases the held WRITEs whose
waiting chunks are then all CLEAN; in any other slot the result is discarded. A lane still at work hands nothing over (R63, R84, R85, R109,
R111, R112).
Model's choices in it: log 9. -/
def Obligations.FinishedCopyReachesItsSlot : Prop :=
  (∀ (s : State) (l : Fin 4), s.resetn = false →
    ((s.lane l.val).frags ≠ [] ∨ ((s.lane l.val).state ≠ .reading ∧ (s.lane l.val).state ≠ .writing)) →
    exec (.copyCompletion l) s = .next s) ∧
  (∀ (s : State) (l : Fin 4) (i k : Nat), s.resetn = false → (s.lane l.val).frags = [] →
    ((s.lane l.val).state = .reading ∨ (s.lane l.val).state = .writing) → (s.lane l.val).slot = some i → (s.lane l.val).chunk = some k →
    let fails := (s.lane l.val).failure.isSome
    let free := s.setLane l.val { Lane.initial with seq := (s.lane l.val).seq }
    let free' := if (s.lane l.val).op = some .zeroFill ∧ fails = true ∧ (s.lane l.val).state = .writing then
      free.setCond (.zeroWriteFault l) else free
    (∀ c, (s.slot i).claim = some c →
      (c.state = .copying ∨ c.state = .cutover →
        (fails = false → exec (.copyCompletion l) s =
          .next (free.setClaim i (c.setChunk k (if c.chunk k = .copying then .clean else .dirty))).settle) ∧
        (fails = true → exec (.copyCompletion l) s =
          .next (free'.abandon i (if (s.lane l.val).state = .reading then .sourceError else .targetError)).settle)) ∧
      (c.state = .zeroing → (s.lane l.val).state = .writing → (s.lane l.val).op = some .zeroFill →
        (fails = true → exec (.copyCompletion l) s =
          .next (free'.setSlot i { s.slot i with pause := true, claim := some (c.setChunk k .dirty) }).settle) ∧
        (fails = false → (c.setChunk k .clean).dirtyCount ≠ 0 →
          let done := fun e => (s.waitingChunks c e).all (fun j => decide ((c.setChunk k .clean).chunk j = .clean))
          ∃ w : State, exec (.copyCompletion l) s = .next w.settle ∧
            w.slot i = { s.slot i with claim := some { c.setChunk k .clean with hold := c.hold.filter (fun e => !done e) } } ∧
            (∀ j, j ≠ i → w.slot j = s.slot j) ∧
            w.fre.reentry = s.fre.reentry ++ (c.hold.filter done).map (fun e => (e, EntryPoint.check6)) ∧
            (∀ e, w.command e = s.released (c.hold.filter done) e) ∧
            w = { free with
              fre := { s.fre with commands := w.fre.commands, reentry := w.fre.reentry }, mgc := { s.mgc with slots := w.mgc.slots } }) ∧
        (fails = false → (c.setChunk k .clean).dirtyCount = 0 → s.fencedAt c.index = false →
          ∃ w : State, exec (.copyCompletion l) s = .next w.settle ∧ w.slot i = { s.slot i with claim := none, pause := false } ∧
            w.recAt c.index = { s.recAt c.index with state := .plain, slot := none } ∧ w.pendingNotice .zeroDone = true ∧
            w.fre.reentry = s.fre.reentry ++ c.hold.map (fun e => (e, EntryPoint.check6)) ∧ (∀ e, w.command e = s.released c.hold e) ∧
            (∀ j, j ≠ c.index → w.recAt j = s.recAt j) ∧ (∀ j, j ≠ i → w.slot j = s.slot j) ∧
            w = { free with
              lmu := { s.lmu with extents := w.lmu.extents }, fre := { s.fre with commands := w.fre.commands, reentry := w.fre.reentry },
              mgc := w.mgc, msb := { s.msb with sections := w.msb.sections },
              fnu := { s.fnu with notices := w.fnu.notices } })) ∧
      (c.state = .abandoning ∨ c.state = .ending ∨ c.state = .retiring → exec (.copyCompletion l) s = .next free'.settle)) ∧
    ((s.slot i).claim = none → exec (.copyCompletion l) s = .next free'.settle))

/-- The expiry of a cutover timer raises the attempts and releases the held commands; below three the slot is back in COPYING at pass 1,
sweep 0; at three it is abandoned with CUTOVER-TIMEOUT (R69). A report is taken once: a port's exit abandons a move with a member on the port
(SHELF-LOST); a fence abandons a move (MAP-FAULT), and ends a ZERO slot with its held writes released and the record as stored (R115, R141,
R150).
Model's choices in it: logs 2, 9 and 10. -/
def Obligations.CutoverExpiryAndReportsReachTheSlot : Prop :=
  (∀ (s : State) (i : Fin 4), s.resetn = false →
    ((∀ c m, (s.slot i.val).claim = some c → c.move = some m → c.state ≠ .cutover ∨ m.timer = none) →
      exec (.cutoverTimerExpiry i) s = .next s.settle) ∧
    (∀ c m, (s.slot i.val).claim = some c → c.move = some m → c.state = .cutover → m.timer.isSome = true →
      ∃ w : State, exec (.cutoverTimerExpiry i) s = .next w.settle ∧
        w.fre.reentry = s.fre.reentry ++ c.hold.map (fun e => (e, EntryPoint.check6)) ∧ (∀ e, w.command e = s.released c.hold e) ∧
        (∀ j, j ≠ i.val → w.slot j = s.slot j) ∧
        (m.attempts + 1 < 3 →
          w.slot i.val = { s.slot i.val with claim := some { c with
            state := .copying, hold := [], move := some { m with attempts := m.attempts + 1, timer := none, pass := 1, sweep := 0 } } } ∧
          w = { s with
            fre := { s.fre with commands := w.fre.commands, reentry := w.fre.reentry }, mgc := { s.mgc with slots := w.mgc.slots } }) ∧
        (3 ≤ m.attempts + 1 →
          w.slot i.val = { s.slot i.val with
            reason := .cutoverTimeout,
            claim := some { c with
              state := .abandoning, hold := [],
              move := some { m with attempts := m.attempts + 1, timer := none, flushOut := 0 } } } ∧
          (w.recAt c.index).gen = (s.recAt c.index).gen ∧ (s.fencedAt c.index = false → (w.recAt c.index).state = .plain)))) ∧
  ((∀ (s : State) (i : Fin 4) (p : Fin 8), s.resetn = false →
    let less := s.setMgc { s.mgc with exitReports := s.mgc.exitReports.filter (fun r => r != (i.val, p.val)) }
    ((i.val, p.val) ∉ s.mgc.exitReports → exec (.portExitReport i p) s = .next s) ∧
    ((i.val, p.val) ∈ s.mgc.exitReports →
      (∀ c m, (s.slot i.val).claim = some c → c.move = some m →
        ((∃ x ∈ (s.layout c.source.group).members, x.port = p.val) ∨ (∃ x ∈ (s.layout m.target.group).members, x.port = p.val)) →
        exec (.portExitReport i p) s = .next (less.abandon i.val .shelfLost).settle) ∧
      (∀ c, (s.slot i.val).claim = some c → c.move = none → exec (.portExitReport i p) s = .next less.settle))) ∧
  (∀ (s : State) (i : Fin 4), s.resetn = false →
    let less := s.setMgc { s.mgc with fenceReports := s.mgc.fenceReports.filter (fun r => r != i.val) }
    (i.val ∉ s.mgc.fenceReports → exec (.fenceReport i) s = .next s) ∧
    (i.val ∈ s.mgc.fenceReports →
      (∀ c, (s.slot i.val).claim = some c → c.state ≠ .zeroing →
        exec (.fenceReport i) s = .next (less.abandon i.val .mapFault).settle) ∧
      (∀ c, (s.slot i.val).claim = some c → c.state = .zeroing → s.fencedAt c.index = true →
        ∃ w : State, exec (.fenceReport i) s = .next w.settle ∧
          w.slot i.val = { s.slot i.val with reason := .mapFault, claim := some { c with state := .ending, hold := [] } } ∧
          w.fre.reentry = s.fre.reentry ++ c.hold.map (fun e => (e, EntryPoint.check6)) ∧ (∀ e, w.command e = s.released c.hold e) ∧
          (∀ j, w.recAt j = s.recAt j) ∧
          w = { less with
            fre := { s.fre with commands := w.fre.commands, reentry := w.fre.reentry }, mgc := { less.mgc with slots := w.mgc.slots },
            cpm := { s.cpm with lanes := w.cpm.lanes } }))))

/-- R96: a window end latches the finished window with the next sequence number, clears the counters, judges the busy set from the host
counts and starts a window of the length last set; the busy set changes at no other event but RESET BRIDGE (and RESETn).
Model's choices in it: log 2. -/
def Obligations.WindowEndLatchesTheSample : Prop :=
  (∀ s : State, s.resetn = false → ∃ t : State, exec .windowEnd s = .next t ∧
    t.acg.sample.seq = s.acg.sample.seq + 1 ∧ t.acg.sample.length = s.acg.windowNow ∧
    t.acg.sample.host = s.acg.hostCounts ∧ t.acg.sample.copy = s.acg.copyCounts ∧
    (∀ p, p ∈ t.acg.sample.busy ↔ p < 8 ∧ 0 < s.acg.busyLevel ∧ s.acg.busyLevel ≤ Tbl.getD s.acg.hostCounts p 0) ∧
    (∀ p, Tbl.getD t.acg.hostCounts p 0 = 0 ∧ Tbl.getD t.acg.copyCounts p 0 = 0) ∧
    t.acg.windowNow = s.acg.windowLength ∧ t.acg.windowLeft = s.acg.windowLength ∧
    t.acg.windowLength = s.acg.windowLength ∧ t.acg.busyLevel = s.acg.busyLevel ∧ t = { s with acg := t.acg }) ∧
  (∀ (c : Instr) (s t : State), writesSample c = false → exec c s = .next t → t.acg.sample = s.acg.sample)

/-- A diversion timer that expires answers its command ABORTED, frees both entries and raises DIVERSION-TIMEOUT; RESOLVE with COMPLETE
answers the command with the status given and frees both; with PASS the command rejoins the checks at check 8. The use count is kept, and a
diversion that is free or of another use is refused NO-SUCH (R124 to R127).
Model's choices in it: logs 2, 4 and 13. -/
def Obligations.DiversionsEndOnce : Prop :=
  (∀ (s : State) (n : Fin 16), s.resetn = false → Tbl.find s.dvq.entries n.val = none →
    exec (.diversionTimerExpiry n) s = .next s ∧
    ∀ use o, s.takes (.resolve n.val use o) = true → (o = .pass ∨ ∃ st b p w, o = .complete st b p w ∧ st ≤ 10) →
      exec (.resolve n.val use o) s = .next (s.respond 24 (refusedFor .noSuch))) ∧
  (∀ (s : State) (n : Fin 16) (d : Diversion) (c : Command), s.resetn = false → Tbl.find s.dvq.entries n.val = some d →
    s.command d.entry = some c →
    let free := s.setDvq { s.dvq with entries := Tbl.del s.dvq.entries n.val, order := s.dvq.order.filter (fun k => k != n.val) }
    exec (.diversionTimerExpiry n) s =
      .next (((free.dropCommand d.entry).sendHost c.port (plainStatus c.record.tag .aborted)).raise .diversionTimeout) ∧
    (∀ use o, use ≠ Tbl.getD s.dvq.useCounts n.val 0 → s.takes (.resolve n.val use o) = true →
      (o = .pass ∨ ∃ st b p w, o = .complete st b p w ∧ st ≤ 10) →
      exec (.resolve n.val use o) s = .next (s.respond 24 (refusedFor .noSuch))) ∧
    (∀ use, use = Tbl.getD s.dvq.useCounts n.val 0 →
      (s.takes (.resolve n.val use .pass) = true → c.record.kind ≠ .format →
        exec (.resolve n.val use .pass) s = .next (((free.setCommand d.entry { c with state := .waiting }).setFre
          { s.fre with
            commands := Tbl.ins s.fre.commands d.entry { c with state := .waiting },
            reentry := s.fre.reentry ++ [(d.entry, .check8)] }).respond 24 (doneWith []))) ∧
      (s.takes (.resolve n.val use .pass) = true → c.record.kind = .format →
        exec (.resolve n.val use .pass) s = .next (s.respond 24 (refusedFor .state))) ∧
      (∀ st h b p w, HostStatus.ofCode? st = some h → s.takes (.resolve n.val use (.complete st b p w)) = true →
        (h ≠ .deviceError → exec (.resolve n.val use (.complete st b p w)) s =
          .next (((free.dropCommand d.entry).sendHost c.port (plainStatus c.record.tag h)).respond 24 (doneWith []))) ∧
        (∀ k y, h = .deviceError → c.record.kind = .discard → b = some k → c.record.start.toNat ≤ k →
          k < c.record.start.toNat + c.record.length.toNat → p = none → w.bind reasonOf? = some y →
          exec (.resolve n.val use (.complete st b p w)) s =
            .next (((free.dropCommand d.entry).sendHost c.port
              { plainStatus c.record.tag .deviceError with reason := some y, failingBlock := some k }).respond 24 (doneWith []))))))

/-- A scrub visit moves on, and leaves a FENCED section or one that agrees as it is; a mismatch or a diagnostic fences the section, with the
values recorded, MAP-CHECK set, MAP-FAULT raised and the slots on it told (R149, R150, R153). CHECK DIAGNOSTIC sets or clears the pending
diagnostic by its checks. A fault of the map memory changes the stored record and nothing else (R148).
Model's choices in it: logs 2, 4, 10, 14 and 23. -/
def Obligations.ScrubDiagnosticAndMapMemory : Prop :=
  (∀ s : State, s.resetn = false →
    let k := s.msb.position
    let sec := s.sect k
    let on := fun (m : Msb) => ({ m with
      position := if k = 63 then 0 else k + 1, cycle := if k = 63 then s.msb.cycle + 1 else s.msb.cycle, left := s.msb.interval } : Msb)
    ((sec.fenced = true ∨ (sec.check = sectionCheck s.lmu.extents k ∧ ∀ x, s.msb.diagnostic ≠ some (k, x))) →
      exec .scrubVisit s = .next { s with msb := on s.msb }) ∧
    (k < 64 → sec.fenced = false → sec.check ≠ sectionCheck s.lmu.extents k ∨ (∃ x, s.msb.diagnostic = some (k, x)) →
      ∃ t : State, exec .scrubVisit s = .next t ∧
        t.sect k = { sec with fenced := true, reload := [], fence := some (match s.msb.diagnostic with
          | some d => if d.1 = k then ⟨.diagnostic, sectionCheck s.lmu.extents k, comparedValue d.2 sec.check⟩
              else ⟨.mismatch, sectionCheck s.lmu.extents k, sec.check⟩
          | none => ⟨.mismatch, sectionCheck s.lmu.extents k, sec.check⟩) } ∧
        (∀ j, j ≠ k → t.sect j = s.sect j) ∧
        t.msb.diagnostic = (match s.msb.diagnostic with | some d => if d.1 = k then none else some d | none => none) ∧
        t.condAt (32 + k) = true ∧ t.pendingNotice .mapFault = true ∧
        (∀ i, i < 4 → (i ∈ t.mgc.fenceReports ↔
          i ∈ s.mgc.fenceReports ∨ ∃ c, (s.slot i).claim = some c ∧ sectionOf c.index = k)) ∧
        t = { s with
          msb := on { s.msb with sections := t.msb.sections, diagnostic := t.msb.diagnostic },
          fnu := { s.fnu with conds := t.fnu.conds, notices := t.fnu.notices },
          mgc := { s.mgc with fenceReports := t.mgc.fenceReports } })) ∧
  ((∀ (s : State) (k x : Nat), s.accepts (.checkDiagnostic k x) →
    ((63 < k ∨ 3 < x) → exec (.checkDiagnostic k x) s =
      .next (s.respond 32 { refused := some .badArgument, body := diagBytes s.msb.diagnostic })) ∧
    (k ≤ 63 → x = 0 → exec (.checkDiagnostic k x) s =
      .next ((s.setMsb { s.msb with diagnostic := none }).respond 32 (doneWith [255, 255]))) ∧
    (k ≤ 63 → 1 ≤ x → x ≤ 3 → (s.sect k).fenced = true → exec (.checkDiagnostic k x) s =
      .next (s.respond 32 { refused := some .state, body := diagBytes s.msb.diagnostic })) ∧
    (k ≤ 63 → 1 ≤ x → x ≤ 3 → (s.sect k).fenced = false → exec (.checkDiagnostic k x) s =
      .next ((s.setMsb { s.msb with diagnostic := some (k, x) }).respond 32 (doneWith (le1 k ++ le1 x))))) ∧
  (∀ (s : State) (i : Fin 65536) (r : ExtRec), s.resetn = false → ∃ t : State, exec (.mapMemoryFault i r) s = .next t ∧
    t.recAt i.val = r ∧ (∀ j, j ≠ i.val → t.recAt j = s.recAt j) ∧
    t = { s with lmu := { s.lmu with extents := t.lmu.extents } }))

/-! ### Shelf ports -/

/-- A current fault: ignored with the power off and where the input stands already; in UNSWITCHED mode only POWER-FAULT is set; in a
switched mode POWER-FAULT and the latch are set and the port, whatever its state, is FAULTED with the power off, a port in ONLINE leaving it
with all that R141 gives. The end of the input's assertion changes nothing else (R135, R141).
Model's choices in it: logs 9, 10, 11 and 15. -/
def Obligations.CurrentFaultTripsThePort : Prop :=
  ∀ (s : State) (p : Fin 8),
    exec (.currentFaultDeassert p) s = .next (s.setPort p.val { s.port p.val with faultInput := false }) ∧
    ((s.port p.val).faultInput = true → exec (.currentFault p) s = .next s) ∧
    ((s.port p.val).faultInput = false → s.resetn = false →
      let now := s.setPort p.val { s.port p.val with faultInput := true }
      ((s.port p.val).output = false → exec (.currentFault p) s = .next now) ∧
      ((s.port p.val).output = true → s.spc.mode = .unswitched →
        exec (.currentFault p) s = .next (now.setCond (.powerFault p)).settle) ∧
      ((s.port p.val).output = true → s.spc.mode ≠ .unswitched →
        ((s.port p.val).state ≠ .online → exec (.currentFault p) s =
          .next (((s.setCond (.powerFault p)).setPort p.val { s.port p.val with
            state := .faulted, cause := some .powerFault, output := false, settle := none, link := none, latch := true,
            faultInput := true }).raise .shelfChange).settle) ∧
        ∃ w : State, exec (.currentFault p) s = .next w.settle ∧ w.condAt p.val = true ∧ w.pendingNotice .shelfChange = true ∧
          w.port p.val = { s.port p.val with
            state := .faulted, cause := some .powerFault, output := false, settle := none, link := none, latch := true,
            faultInput := true } ∧
          (∀ q, q ≠ p.val → w.port q = s.port q) ∧
          ((s.port p.val).state = .online → s.TablesInOrder → (now.setCond (.powerFault p)).Exits w p.val { s.port p.val with
            state := .faulted, cause := some .powerFault, output := false, settle := none, link := none, latch := true,
            faultInput := true })))

/-- Bring-up: the settle timer of a port in POWERING takes it to LINKING with an inventory request and a link timer of 10 s; the link
timer takes it to FAULTED with LINK-TIMEOUT; a report of 24 good entries takes it to ONLINE with its drives as reported, their change
counts kept and no DRIVE-CHANGE. A report of 24 good entries in ONLINE is taken as 24 slot changes: every change count advances, DRIVE-CHANGE
is raised, and the fragments at drives that become ABSENT complete NOT-PRESENT. In any other state a timer does nothing, and a malformed or
unasked report is discarded, one with an entry of unknown presence too, which is the model's reading (log 24; R136 to R139).
Model's choices in it: logs 2, 9 and 24. -/
def Obligations.PortComesUpThroughLinking : Prop :=
  ∀ (s : State) (p : Fin 8), s.resetn = false →
    (((s.port p.val).state ≠ .powering ∨ (s.port p.val).settle = none) → exec (.settleTimerExpiry p) s = .next s) ∧
    ((s.port p.val).state = .powering → (s.port p.val).settle.isSome = true → exec (.settleTimerExpiry p) s =
      .next (((s.setPort p.val { s.port p.val with state := .linking, settle := none, link := some 10000 }).raise .shelfChange).sendShelf
        p.val .inventoryRequest)) ∧
    (((s.port p.val).state ≠ .linking ∨ (s.port p.val).link = none) → exec (.linkTimerExpiry p) s = .next s) ∧
    ((s.port p.val).state = .linking → (s.port p.val).link.isSome = true → exec (.linkTimerExpiry p) s =
      .next (((s.setPort p.val { s.port p.val with state := .faulted, cause := some .linkTimeout, link := none }).raise
        .shelfChange).setCond (.linkTimeout p))) ∧
    (∀ es : List SlotEntry,
      ((es.length ≠ 24 ∨ (∃ e ∈ es, 1 < e.presence.toNat) ∨
        ((s.port p.val).state ≠ .linking ∧ (s.port p.val).state ≠ .online)) → exec (.inventoryReport p es) s = .next s) ∧
      (es.length = 24 → (∀ e ∈ es, e.presence.toNat ≤ 1) → (s.port p.val).state = .linking →
        ∃ t : State, exec (.inventoryReport p es) s = .next t ∧
          t.port p.val = { s.port p.val with state := .online, link := none } ∧ (∀ q, q ≠ p.val → t.port q = s.port q) ∧
          (∀ d (h : d < es.length), t.drive p.val d =
            { present := decide ((es[d]).presence = 1), capacity := if (es[d]).presence = 1 then (es[d]).capacity.toNat else 0,
              changes := (s.drive p.val d).changes }) ∧
          (∀ q d, d < 256 → q ≠ p.val ∨ 24 ≤ d → t.drive q d = s.drive q d) ∧
          t.pendingNotice .shelfChange = true ∧ (∀ n, n ≠ .shelfChange → t.pendingNotice n = s.pendingNotice n) ∧
          t = { s with
            spc := { s.spc with ports := t.spc.ports, drives := t.spc.drives }, fnu := { s.fnu with notices := t.fnu.notices } }) ∧
      (es.length = 24 → (∀ e ∈ es, e.presence.toNat ≤ 1) → (s.port p.val).state = .online → s.TablesInOrder →
        let gone := fun d : Nat => (es[d]?).any (fun e => e.presence == 0)
        ∃ w : State, exec (.inventoryReport p es) s = .next w.settle ∧
          (∀ d (h : d < es.length), w.drive p.val d =
            { present := decide ((es[d]).presence = 1), capacity := if (es[d]).presence = 1 then (es[d]).capacity.toNat else 0,
              changes := (s.drive p.val d).changes + 1 }) ∧
          (∀ q d, d < 256 → q ≠ p.val ∨ 24 ≤ d → w.drive q d = s.drive q d) ∧ w.spc = { s.spc with drives := w.spc.drives } ∧
          w.pendingNotice .driveChange = true ∧ (∀ n, n ≠ .driveChange → w.pendingNotice n = s.pendingNotice n) ∧
          w.fnu = { s.fnu with notices := w.fnu.notices } ∧
          (∀ l, l < 4 → w.lane l = (s.lane l).loses (fun f => f.port == p.val && gone f.drive)) ∧
          w.cpm = { s.cpm with lanes := w.cpm.lanes } ∧
          ∃ ns : List Nat, ns.Nodup ∧
            (∀ n, n ∈ ns ↔ (s.frag n).any (fun f => f.port == p.val && f.addr.any (fun a => gone a.drive)) = true) ∧
            State.LosesFragments w ns { s with spc := w.spc, fnu := w.fnu, cpm := w.cpm }))

/-- A slot-change report taken in ONLINE writes the drive's entry, advances its change count and raises DRIVE-CHANGE, and every host and lane
fragment in flight at a drive that becomes ABSENT completes NOT-PRESENT with its owner; a report in another state, of a slot above 23 or of no
known presence is discarded, the last by the model's reading (R139; log 24). A port in ONLINE whose link is lost is FAULTED with LINK-LOSS, its power left on: its drives are ABSENT with
change counts kept, every fragment in flight on it completes NOT-PRESENT with its owner (a target flush: TARGET-ERROR, or SHELF-LOST first),
and its exit is told to every slot at work; in any other state the loss is not acted on (R70, R140, R141).
Model's choices in it: logs 9, 10, 11 and 24. -/
def Obligations.FragmentsLeaveWithTheirDriveOrPort : Prop :=
  (∀ (s : State) (p : Fin 8) (d : Byte) (x : SlotEntry), s.resetn = false →
    (((s.port p.val).state ≠ .online ∨ 23 < d.toNat ∨ 1 < x.presence.toNat) → exec (.slotChangeReport p d x) s = .next s) ∧
    ((s.port p.val).state = .online → d.toNat ≤ 23 →
      (x.presence = 1 → exec (.slotChangeReport p d x) s =
        .next ((s.setDrive p.val d.toNat
          { present := true, capacity := x.capacity.toNat, changes := (s.drive p.val d.toNat).changes + 1 }).raise .driveChange).settle) ∧
      (x.presence = 0 → s.TablesInOrder →
        ∃ w : State, exec (.slotChangeReport p d x) s = .next w.settle ∧
          w.drive p.val d.toNat = { present := false, capacity := 0, changes := (s.drive p.val d.toNat).changes + 1 } ∧
          w.pendingNotice .driveChange = true ∧
          (∀ n, w.frag n = (s.frag n).filter (fun f => !(f.port == p.val && f.addr.any (fun a => a.drive == d.toNat)))) ∧
          (∀ l, l < 4 → (w.lane l).frags.all (fun f => !(f.port == p.val && f.drive == d.toNat)) = true) ∧
          w.mgc.flushFrags = s.mgc.flushFrags ∧ w.spc.ports = s.spc.ports ∧
          (∀ l, l < 4 → w.lane l = (s.lane l).loses (fun f => f.port == p.val && f.drive == d.toNat)) ∧
          w.cpm = { s.cpm with lanes := w.cpm.lanes } ∧ w.spc = { s.spc with drives := w.spc.drives } ∧
          w.fnu = { s.fnu with notices := w.fnu.notices } ∧
          ∃ ns : List Nat, ns.Nodup ∧
            (∀ n, n ∈ ns ↔ (s.frag n).any (fun f => f.port == p.val && f.addr.any (fun a => a.drive == d.toNat)) = true) ∧
            State.LosesFragments w ns { s with spc := w.spc, fnu := w.fnu, cpm := w.cpm }))) ∧
  (∀ (s : State) (p : Fin 8), s.resetn = false →
    ((s.port p.val).state ≠ .online → exec (.shelfLinkLoss p) s = .next s) ∧
    ((s.port p.val).state = .online → s.TablesInOrder → ∃ w : State, exec (.shelfLinkLoss p) s = .next w.settle ∧
      w.port p.val = { s.port p.val with state := .faulted, cause := some .linkLoss } ∧ (∀ q, q ≠ p.val → w.port q = s.port q) ∧
      w.condAt (8 + p.val) = true ∧ w.pendingNotice .shelfChange = true ∧
      (∀ d, d < 24 → w.drive p.val d = { present := false, capacity := 0, changes := (s.drive p.val d).changes }) ∧
      (∀ n, w.frag n = (s.frag n).filter (fun f => f.port != p.val)) ∧
      (∀ l, l < 4 → (w.lane l).frags.all (fun f => f.port != p.val) = true) ∧
      w.mgc.flushFrags = s.mgc.flushFrags.filter (fun f => f.port != p.val) ∧
      (∀ i, i < 4 → ((i, p.val) ∈ w.mgc.exitReports ↔ (s.slot i).claim.isSome = true)) ∧
      w.hli = s.hli ∧ w.cau = s.cau ∧ w.dvq = s.dvq ∧ w.mgu = s.mgu ∧ w.lmu.volumes = s.lmu.volumes ∧ w.lmu.groups = s.lmu.groups ∧
      w.acg.sample = s.acg.sample ∧ w.responses = s.responses ∧
      (s.setCond (.linkLoss p)).Exits w p.val { s.port p.val with state := .faulted, cause := some .linkLoss }))

/-- The power requests write the mode, the global switch, or a port's switch and follow-global flag, clear the latches their rules name,
and work out every port's power again: a port whose demand is OFF ends OFF, one newly powered enters POWERING (and trips if its input
stands in a switched mode), and any other is as it was. RESET SHELF PORT restarts a powered port in POWERING and takes an unpowered FAULTED
one to OFF. A port that leaves ONLINE by any of these does so with all that R141 gives; several are taken in rising order, the model's order
(log 11; R130 to R134, R141, R142).
Model's choices in it: logs 4, 9, 10, 11, 14, 17 and 18. -/
def Obligations.PowerRequestsWorkOutEveryPort : Prop :=
  (∀ (s : State) (m : Nat) (x : PowerMode), modeOf? m = some x → s.accepts (.setPowerMode m) →
    ∃ u : State, exec (.setPowerMode m) s = .next (u.respond 25 (doneWith u.powerBytes)).settle ∧
      u.spc.mode = x ∧ u.spc.globalSwitch = s.spc.globalSwitch ∧
      (∀ p, p < 8 → u.port p = Port.worked { s.port p with latch := (s.port p).latch && decide (x ≠ .unswitched) }
        ((s.setSpc { s.spc with mode := x }).demand p) (decide (x ≠ .unswitched))) ∧
      u.hli = s.hli ∧ u.cau = s.cau ∧ u.dvq = s.dvq ∧ u.mgu = s.mgu ∧ u.responses = s.responses ∧
      (s.TablesInOrder → ∃ now : State, State.WorksOutAll u (List.range 8) now ∧
        (∀ p, p < 8 → now.port p = { s.port p with latch := (s.port p).latch && decide (x ≠ .unswitched) }) ∧
        now = { s with spc := { s.spc with mode := x, ports := now.spc.ports } })) ∧
  (∀ (s : State) (v : Nat), v ≤ 1 → s.accepts (.powerShelves v) →
    ∃ u : State, exec (.powerShelves v) s = .next (u.respond 26 (doneWith u.powerBytes)).settle ∧
      u.spc.mode = s.spc.mode ∧ u.spc.globalSwitch = decide (v = 1) ∧
      (∀ p, p < 8 → u.port p = Port.worked { s.port p with latch := (s.port p).latch && !(decide (v = 1) && s.obeys p) }
        ((s.setSpc { s.spc with globalSwitch := decide (v = 1) }).demand p) (decide (s.spc.mode ≠ .unswitched))) ∧
      u.hli = s.hli ∧ u.cau = s.cau ∧ u.dvq = s.dvq ∧ u.mgu = s.mgu ∧ u.responses = s.responses ∧
      (s.TablesInOrder → ∃ now : State, State.WorksOutAll u (List.range 8) now ∧
        (∀ p, p < 8 → now.port p = { s.port p with latch := (s.port p).latch && !(decide (v = 1) && s.obeys p) }) ∧
        now = { s with spc := { s.spc with globalSwitch := decide (v = 1), ports := now.spc.ports } })) ∧
  (∀ (s : State) (p v f : Nat), p ≤ 7 → v ≤ 1 → f ≤ 1 → s.accepts (.powerPort p v f) →
    let x : Port := { s.port p with switch := decide (v = 1), follow := decide (f = 1) }
    let on := if f = 1 then s.spc.globalSwitch else decide (v = 1)
    ∃ u : State, exec (.powerPort p v f) s = .next (u.respond 27 (doneWith u.powerBytes)).settle ∧
      (s.spc.mode ≠ .individual → u = s.setPort p x) ∧
      (s.spc.mode = .individual → u.port p = Port.worked { x with latch := x.latch && !on } on true) ∧
      (s.spc.mode = .individual → s.TablesInOrder → (s.setPort p { x with latch := x.latch && !on }).WorksOut u p) ∧
      (∀ q, q ≠ p → u.port q = s.port q) ∧ u.spc.mode = s.spc.mode ∧ u.spc.globalSwitch = s.spc.globalSwitch ∧
      u.hli = s.hli ∧ u.cau = s.cau ∧ u.dvq = s.dvq ∧ u.mgu = s.mgu ∧ u.responses = s.responses) ∧
  (∀ (s : State) (p : Nat), p ≤ 7 → s.accepts (.resetShelfPort p) →
    ∃ u : State, exec (.resetShelfPort p) s = .next (u.respond 28 (doneWith [portStateCode (u.port p).state])).settle ∧
      ((s.port p).output = true → u.port p = { s.port p with
        state := .powering, cause := none, output := true, settle := some 1500, link := none } ∧ ∀ q, q ≠ p → u.port q = s.port q) ∧
      ((s.port p).output = true → (s.port p).state = .online → s.TablesInOrder → s.Exits u p (s.port p).powered) ∧
      ((s.port p).output = true → (s.port p).state ≠ .online → u = (s.setPort p (s.port p).powered).raise .shelfChange) ∧
      ((s.port p).output = false → (s.port p).state = .faulted →
        u = (s.setPort p { s.port p with state := .off, cause := none }).raise .shelfChange) ∧
      ((s.port p).output = false → (s.port p).state ≠ .faulted → u = s))

/-! ### Requests on tables -/

/-- LOAD GROUP writes a descriptor LOADED with the layout given; ACTIVATE GROUP makes a LOADED group whose drives are PRESENT, large enough
and not overlapped ACTIVE with every band FREE; DEACTIVATE GROUP makes an ACTIVE group with no band held LOADED again (R14 to R16).
Model's choices in it: log 4. -/
def Obligations.GroupRequestsMoveTheDescriptor : Prop :=
  (∀ (s : State) (g u w b : Nat) (ms : List MemberArg) (unit : StripeUnit), s.accepts (.loadGroup g u w b ms) →
    g ≤ 255 → StripeUnit.ofNat? u = some unit → 1 ≤ w → w ≤ 32 → 1 ≤ b → b ≤ 4096 → ms.length = w →
    (∀ m ∈ ms, m.port ≤ 7 ∧ m.drive ≤ 23 ∧ m.base < 2 ^ 48) → (ms.map (fun m => (m.port, m.drive))).Nodup →
    (∀ x, s.group g = some x → x.active = false) →
    exec (.loadGroup g u w b ms) s = .next ((s.setGroup g { active := false, layout :=
      { unit := unit, bands := b, members := ms.map (fun m => { port := m.port, drive := m.drive, base := m.base }) } }).respond 1
        (doneWith []))) ∧
  (∀ (s : State) (g : Nat) (x : Group), s.accepts (.activateGroup g) → g ≤ 255 → s.group g = some x → x.active = false →
    (∀ m ∈ x.layout.members, s.drivePresent m.port m.drive = true ∧
      m.base + x.layout.bands * x.layout.span ≤ (s.drive m.port m.drive).capacity) →
    (∀ y ∈ s.lmu.groups, y.1 ≠ g → y.2.active = true → ∀ m ∈ x.layout.members, ∀ n ∈ y.2.layout.members,
      m.port = n.port → m.drive = n.drive →
      m.base + x.layout.bands * x.layout.span ≤ n.base ∨ n.base + y.2.layout.bands * y.2.layout.span ≤ m.base) →
    exec (.activateGroup g) s = .next ((s.setLmu { s.lmu with
      groups := Tbl.ins s.lmu.groups g { x with active := true },
      bands := s.lmu.bands.filter (fun h => decide (h.1 / 65536 ≠ g)) }).respond 2 (doneWith []))) ∧
  (∀ (s : State) (g : Nat) (x : Group), s.accepts (.deactivateGroup g) → g ≤ 255 → s.group g = some x → x.active = true →
    (∀ h ∈ s.lmu.bands, h.1 / 65536 ≠ g) →
    exec (.deactivateGroup g) s = .next ((s.setGroup g { x with active := false }).respond 3 (doneWith [])))

/-- LOAD VOLUME writes an unloaded entry or rewrites an OFFLINE one, OFFLINE and with its extent count kept; SET VOLUME STATE writes the
state, and is refused with STATE from ONLINE to OFFLINE while a slot names the volume (R2, R3).
Model's choices in it: log 4. -/
def Obligations.VolumeRequestsWriteTheEntry : Prop :=
  (∀ (s : State) (v m n d : Nat), s.accepts (.loadVolume v m n d) → v ≤ 15 → d ≤ 3 → 1 ≤ n → n ≤ 16384 → m + n ≤ 65536 →
    (∀ x, s.volume v = some x → x.state = .offline ∧ (0 < x.count → m = x.mapBase) ∧ x.count ≤ n) →
    (∀ y ∈ s.lmu.volumes, y.1 ≠ v → m + n ≤ y.2.mapBase ∨ y.2.mapBase + y.2.reserved ≤ m) →
    exec (.loadVolume v m n d) s = .next ((s.setVolume v
      { state := .offline, mapBase := m, reserved := n, count := ((s.volume v).map (fun x => x.count)).getD 0,
        divertDiscard := decide (d = 1 ∨ d = 3), divertFlush := decide (d = 2 ∨ d = 3) }).respond 5 (doneWith []))) ∧
  (∀ (s : State) (v st : Nat) (x : Volume), s.accepts (.setVolumeState v st) → v ≤ 15 → st ≤ 1 → s.volume v = some x →
    (st = 0 → x.state = .online → ∀ i c, i < 4 → (s.slot i).claim = some c → c.volume ≠ v) →
    exec (.setVolumeState v st) s =
      .next ((s.setVolume v { x with state := if st = 0 then .offline else .online }).respond 6 (doneWith []))) ∧
  (∀ (s : State) (v i : Nat) (x : Volume) (c : Claim), s.accepts (.setVolumeState v 0) → v ≤ 15 → s.volume v = some x →
    x.state = .online → i < 4 → (s.slot i).claim = some c → c.volume = v →
    exec (.setVolumeState v 0) s = .next (s.respond 6 (refusedFor .state)))

/-- LOAD EXTENTS on an OFFLINE volume over unfenced records writes each listed record at its index with a kind 1 hold on its location, which
is FREE once the kind 1 holds of the overwritten indices are counted as dropped (its own, or one it exchanges), drops those holds, raises the extent count, recomputes the checks and, if the count rose, flags every initiator
with a right (R10, R33).
Model's choices in it: log 4. -/
def Obligations.LoadExtentsWritesRecordsAndHolds : Prop :=
  ∀ (s : State) (v f : Nat) (rs : List ExtentArg) (x : Volume), s.accepts (.loadExtents v f rs) → s.TablesInOrder →
    v ≤ 15 → 1 ≤ rs.length → rs.length ≤ 1024 → s.volume v = some x → x.state = .offline →
    f + rs.length ≤ x.reserved → f ≤ x.count →
    (∀ r ∈ rs, r.state ≤ 1 ∧ s.locationOk (argLoc r) = true ∧ r.band < 65536 ∧
      (s.dropRecordHolds (x.mapBase + f) rs.length).holder (argLoc r) = none) → (rs.map argLoc).Nodup →
    (∀ j, x.mapBase + f ≤ j → j < x.mapBase + f + rs.length → s.fencedAt j = false ∧
      ((s.recAt j).state = .zero ∨ (s.recAt j).state = .plain) ∧ ∀ i c, i < 4 → (s.slot i).claim = some c → c.index ≠ j) →
    let base := x.mapBase + f
    let k := rs.length
    ∃ u : State, exec (.loadExtents v f rs) s = .next (u.respond 8 (doneWith [])) ∧
      (∀ j (h : j < rs.length), u.recAt (base + j) =
          { group := BitVec.ofNat 8 (rs[j]).group, band := BitVec.ofNat 16 (rs[j]).band,
            state := if (rs[j]).state = 0 then .zero else .plain, slot := none, gen := (rs[j]).gen, tag := (rs[j]).tag } ∧
        u.holder ⟨(rs[j]).group, (rs[j]).band⟩ = some (.record (base + j))) ∧
      (∀ j, j < base ∨ base + k ≤ j → u.recAt j = s.recAt j) ∧
      (∀ l, l.band < 65536 → (∀ r ∈ rs, argLoc r ≠ l) → u.holder l =
        (s.holder l).filter (fun h => match h with | .record j => !(decide (base ≤ j ∧ j < base + k)) | _ => true)) ∧
      u.volume v = some { x with count := max x.count (f + k) } ∧ (∀ w, w ≠ v → u.volume w = s.volume w) ∧
      (∀ n, n < 64 → (u.sect n).fenced = (s.sect n).fenced ∧
        (u.sect n).check = if sectionOf base ≤ n ∧ n ≤ sectionOf (base + k - 1) then sectionCheck u.lmu.extents n else (s.sect n).check) ∧
      (∀ n, Tbl.find u.cau.initiators n = (Tbl.find s.cau.initiators n).map (fun e =>
        if x.count < f + k ∧ e.rights.getD v .none ≠ .none then { e with sizePending := setFlag e.sizePending v true } else e)) ∧
      u = { s with
        lmu := { s.lmu with volumes := u.lmu.volumes, extents := u.lmu.extents, bands := u.lmu.bands },
        msb := { s.msb with sections := u.msb.sections }, cau := u.cau }

/-- An accepted LOAD EXTENTS into a FENCED section adds the records it writes to the reload set; the section stays FENCED exactly while a
record in use is not in the set, and on leaving FENCED its check is recomputed, its records not in use are empty and its reload set is
emptied (R152).
Model's choices in it: log 4. -/
def Obligations.ReloadEndsTheFence : Prop :=
  ∀ (s : State) (v f : Nat) (rs : List ExtentArg) (x : Volume), s.accepts (.loadExtents v f rs) →
    loadExtentsRefusal v f rs s = none → s.volume v = some x →
    ∃ u : State, exec (.loadExtents v f rs) s = .next (u.respond 8 (doneWith [])) ∧
      ∀ n, n < 64 → sectionOf (x.mapBase + f) ≤ n → n ≤ sectionOf (x.mapBase + f + rs.length - 1) → (s.sect n).fenced = true →
        (u.sect n).fence = (s.sect n).fence ∧
        ((u.sect n).fenced = true →
          (∃ j, sectionOf j = n ∧ u.inUse j = true ∧ j ∉ (u.sect n).reload) ∧ (u.sect n).check = (s.sect n).check ∧
          ∀ j, j ∈ (u.sect n).reload ↔ j ∈ (s.sect n).reload ∨
            (sectionOf j = n ∧ x.mapBase + f ≤ j ∧ j < x.mapBase + f + rs.length)) ∧
        ((u.sect n).fenced = false →
          (u.sect n).reload = [] ∧ (u.sect n).check = sectionCheck u.lmu.extents n ∧
          (∀ j, sectionOf j = n → u.inUse j = true →
            j ∈ (s.sect n).reload ∨ (x.mapBase + f ≤ j ∧ j < x.mapBase + f + rs.length)) ∧
          ∀ j, sectionOf j = n → u.inUse j = false → u.recAt j = emptyRec)

/-- LOAD INITIATOR rewrites the entry of the pair, keeping its size notices only where a right stays, or takes the lowest free entry with
every notice clear; DROP INITIATOR frees the entry of the pair, and is refused NO-SUCH without one (R31, R32, R174).
Model's choices in it: log 4. -/
def Obligations.InitiatorRequestsWriteOneEntry : Prop :=
  (∀ (s : State) (id : BitVec 32) (p m : Nat) (hp : HostPort) (rs : List Nat), s.accepts (.loadInitiator id p rs m) →
    s.InitiatorsSound → portOf? p = some hp → rs.length = 16 → (∀ r ∈ rs, r ≤ 2) → m ≤ 1 →
    (∀ n e, Tbl.find s.cau.initiators n = some e → e.id = id → e.port = hp →
      ∃ u : State, exec (.loadInitiator id p rs m) s = .next (u.respond 10 (doneWith [])) ∧ u = s.setCau u.cau ∧
        (∀ k, k ≠ n → Tbl.find u.cau.initiators k = Tbl.find s.cau.initiators k) ∧
        ∃ flags, Tbl.find u.cau.initiators n =
            some { id := id, port := hp, rights := rs.map rightOf, manage := decide (m = 1), sizePending := flags } ∧
          ∀ v, v < 16 → flags.getLsbD v = (e.sizePending.getLsbD v && decide (rs.getD v 0 ≠ 0))) ∧
    (∀ n, (∀ k e, Tbl.find s.cau.initiators k = some e → ¬ (e.id = id ∧ e.port = hp)) →
      n < 64 → Tbl.find s.cau.initiators n = none → (∀ k, k < n → (Tbl.find s.cau.initiators k).isSome = true) →
      exec (.loadInitiator id p rs m) s = .next ((s.setCau { s.cau with
        initiators := Tbl.ins s.cau.initiators n
          { id := id, port := hp, rights := rs.map rightOf, manage := decide (m = 1), sizePending := 0 } }).respond 10 (doneWith [])))) ∧
  (∀ (s : State) (id : BitVec 32) (p : Nat) (hp : HostPort), s.accepts (.dropInitiator id p) → s.InitiatorsSound → portOf? p = some hp →
    (∀ n e, Tbl.find s.cau.initiators n = some e → e.id = id → e.port = hp → exec (.dropInitiator id p) s =
      .next ((s.setCau { s.cau with initiators := Tbl.del s.cau.initiators n }).respond 11 (doneWith []))) ∧
    ((∀ k e, Tbl.find s.cau.initiators k = some e → ¬ (e.id = id ∧ e.port = hp)) →
      exec (.dropInitiator id p) s = .next (s.respond 11 (refusedFor .noSuch))))

/-- GROW VOLUME appends one ZERO record for each location listed, with generation and tag 0 and a kind 1 hold, raises the extent count,
recomputes the checks and flags every initiator with a right; its response gives the first new extent, the count and the capacity (R102).
Model's choices in it: logs 4 and 14. -/
def Obligations.GrowVolumeAppendsZeroExtents : Prop :=
  ∀ (s : State) (v : Nat) (ls : List (Nat × Nat)) (x : Volume), s.accepts (.growVolume v ls) →
    v ≤ 15 → 1 ≤ ls.length → ls.length ≤ 256 → s.volume v = some x → x.count + ls.length ≤ x.reserved →
    (∀ l ∈ ls, l.1 ≤ 255 ∧ l.2 < 65536 ∧ s.locationOk ⟨l.1, l.2⟩ = true ∧ s.holder ⟨l.1, l.2⟩ = none) → ls.Nodup →
    (∀ n, n < 64 → sectionOf (x.mapBase + x.count) ≤ n → n ≤ sectionOf (x.mapBase + x.count + ls.length - 1) → (s.sect n).fenced = false) →
    let base := x.mapBase + x.count
    let n := x.count + ls.length
    ∃ u : State, exec (.growVolume v ls) s = .next (u.respond 13 (doneWith (le2 x.count ++ le2 n ++ leBytes 8 (n * 262144)))) ∧
      (∀ j (h : j < ls.length), u.recAt (base + j) =
          { group := BitVec.ofNat 8 (ls[j]).1, band := BitVec.ofNat 16 (ls[j]).2, state := .zero, slot := none, gen := 0, tag := 0 } ∧
        u.holder ⟨(ls[j]).1, (ls[j]).2⟩ = some (.record (base + j))) ∧
      (∀ j, j < base ∨ base + ls.length ≤ j → u.recAt j = s.recAt j) ∧
      (∀ l, l.band < 65536 → (∀ y ∈ ls, (⟨y.1, y.2⟩ : Loc) ≠ l) → u.holder l = s.holder l) ∧
      u.volume v = some { x with count := n } ∧ (∀ w, w ≠ v → u.volume w = s.volume w) ∧
      (∀ k, k < 64 → (u.sect k).fenced = (s.sect k).fenced ∧ (u.sect k).check =
        if sectionOf base ≤ k ∧ k ≤ sectionOf (base + ls.length - 1) then sectionCheck u.lmu.extents k else (s.sect k).check) ∧
      (∀ k, Tbl.find u.cau.initiators k = (Tbl.find s.cau.initiators k).map (fun e =>
        if e.rights.getD v .none ≠ .none then { e with sizePending := setFlag e.sizePending v true } else e)) ∧
      u = { s with
        lmu := { s.lmu with volumes := u.lmu.volumes, extents := u.lmu.extents, bands := u.lmu.bands },
        msb := { s.msb with sections := u.msb.sections }, cau := u.cau }

/-! ### Requests on moves -/

/-- MIGRATE of a PLAIN extent claims the lowest FREE slot, whose record becomes MOVING and whose target is held; of a ZERO extent it
re-points the record, advances its generation and moves its hold, with no slot; given again to a slot in COPYING it restarts the move with
every chunk DIRTY or STALE (R58 to R60, R118). The response comes before what this makes due at the slots.
Model's choices in it: logs 4, 9, 14, 17 and 19. -/
def Obligations.MigrateClaimsRepointsOrRestarts : Prop :=
  ∀ (s : State) (v x g b : Nat) (gen : BitVec 16) (vol : Volume) (idx : Nat), s.accepts (.migrate v x g b gen) →
    v ≤ 15 → s.volume v = some vol → x < vol.count → idx = vol.mapBase + x → gen = (s.recAt idx).gen → g ≤ 255 → b < 65536 →
    s.locationOk ⟨g, b⟩ = true → s.fencedAt idx = false →
    let r := s.recAt idx
    let src : Loc := ⟨r.group.toNat, r.band.toNat⟩
    (∀ i, s.holder ⟨g, b⟩ = none → r.state = .plain → s.freeSlotNo = some i →
      ∃ w : State, exec (.migrate v x g b gen) s = .next (w.respond 14 (doneWith (le1 i))).settle ∧
        w.slot i = { s.slot i with
          claim := some { state := .copying, volume := v, extent := x, index := idx, source := src, chunks := [], drain := s.drawnNow, hold := [],
                          move := some { target := ⟨g, b⟩, pass := 1, sweep := 0, attempts := 0, flushOut := 0, timer := none } } } ∧
        w.recAt idx = { r with state := .moving, slot := some (Fin.ofNat 4 i) } ∧ (∀ j, j ≠ idx → w.recAt j = s.recAt j) ∧
        w.holder ⟨g, b⟩ = some (.target i) ∧ (∀ l, l ≠ ⟨g, b⟩ → l.band < 65536 → w.holder l = s.holder l) ∧
        (∀ j, j ≠ i → w.slot j = s.slot j) ∧
        w = { s with
          lmu := { s.lmu with extents := w.lmu.extents, bands := w.lmu.bands }, mgc := { s.mgc with slots := w.mgc.slots },
          msb := { s.msb with sections := w.msb.sections } }) ∧
    (s.holder ⟨g, b⟩ = none → r.state = .zero → s.holder src = some (.record idx) →
      ∃ u : State, exec (.migrate v x g b gen) s = .next (u.respond 14 (doneWith [255])).settle ∧
        u.recAt idx = { r with group := BitVec.ofNat 8 g, band := BitVec.ofNat 16 b, gen := r.gen + 1 } ∧
        (∀ j, j ≠ idx → u.recAt j = s.recAt j) ∧ u.holder ⟨g, b⟩ = some (.record idx) ∧ u.holder src = none ∧
        (∀ l, l ≠ ⟨g, b⟩ → l ≠ src → l.band < 65536 → u.holder l = s.holder l) ∧
        u = { s with
          lmu := { s.lmu with extents := u.lmu.extents, bands := u.lmu.bands }, msb := { s.msb with sections := u.msb.sections } }) ∧
    (∀ (i : Fin 4) c m, r.state = .moving → r.slot = some i → (s.slot i.val).claim = some c → c.move = some m → c.index = idx →
      c.state = .copying → m.target = ⟨g, b⟩ → s.holder ⟨g, b⟩ = some (.target i.val) →
      ∃ (w : State) (d : Claim), exec (.migrate v x g b gen) s = .next (w.respond 14 (doneWith (le1 i.val))).settle ∧
        w = s.setClaim i.val d ∧ (s.OneBusyChunk → ∀ k, k < 256 →
          d.chunk k = if c.chunk k = .copying ∨ c.chunk k = .stale then .stale else .dirty) ∧
        d = { c with chunks := d.chunks, move := some { m with pass := 1, sweep := 0, attempts := 0 } })

/-- ABORT MIGRATION of a MOVING extent begins the abandon of the slot that holds it with reason ABORT, and is TOO-LATE once that slot is
RETIRING; PAUSE SLOT and RESUME SLOT write the pause flag of a claimed slot alone, and are refused with STATE for a FREE one (R76, R77).
Model's choices in it: logs 4, 9, 17 and 19. -/
def Obligations.AbortPauseAndResumeActOnTheSlot : Prop :=
  (∀ (s : State) (v x : Nat) (gen : BitVec 16) (vol : Volume) (i : Fin 4) (c : Claim) (m : Move), s.accepts (.abortMigration v x gen) →
    v ≤ 15 → s.volume v = some vol → x < vol.count →
    (∀ k d, k < 4 → (s.slot k).claim = some d → d.state = .retiring → ¬ (d.volume = v ∧ d.extent = x)) →
    gen = (s.recAt (vol.mapBase + x)).gen → s.fencedAt (vol.mapBase + x) = false → (s.recAt (vol.mapBase + x)).state = .moving →
    (s.recAt (vol.mapBase + x)).slot = some i → (s.slot i.val).claim = some c → c.move = some m → c.index = vol.mapBase + x →
    exec (.abortMigration v x gen) s = .next ((s.abandon i.val .abort).respond 15 (doneWith [])).settle) ∧
  (∀ (s : State) (v x : Nat) (gen : BitVec 16) (vol : Volume) (i : Nat) (c : Claim), s.accepts (.abortMigration v x gen) →
    v ≤ 15 → s.volume v = some vol → x < vol.count → i < 4 → (s.slot i).claim = some c → c.state = .retiring → c.volume = v →
    c.extent = x → exec (.abortMigration v x gen) s = .next (s.respond 15 (refusedFor .tooLate))) ∧
  (∀ (s : State) (i : Nat), i ≤ 3 →
    (s.accepts (.pauseSlot i) → (s.slot i).claim.isSome = true →
      exec (.pauseSlot i) s = .next ((s.setSlot i { s.slot i with pause := true }).respond 16 (doneWith []))) ∧
    (s.accepts (.resumeSlot i) → (s.slot i).claim.isSome = true →
      exec (.resumeSlot i) s = .next ((s.setSlot i { s.slot i with pause := false }).respond 17 (doneWith []))) ∧
    (s.accepts (.pauseSlot i) → (s.slot i).claim = none →
      exec (.pauseSlot i) s = .next (s.respond 16 (refusedFor .state))) ∧
    (s.accepts (.resumeSlot i) → (s.slot i).claim = none →
      exec (.resumeSlot i) s = .next (s.respond 17 (refusedFor .state))))

/-! ### Settings, reports and the whole part -/

/-- The requests that set tuning values set each one given to the nearest end of its range (times in steps of 10 ms rounded down first),
keep each one left out, and answer with the values in force (R65, R93, R98, R119, R154, R172, R173).
Model's choices in it: logs 4 and 14. -/
def Obligations.TuningRequestsClampTheirValues : Prop :=
  let near := fun (lo hi : Nat) (given : Option Nat) (old : Nat) => (given.map (fun x => max lo (min hi x))).getD old
  let step := fun (given : Option Nat) (old : Nat) => (given.map (fun x => max 10 (min 2550 (x / 10 * 10)))).getD old
  (∀ (s : State) (lanes mode threshold limit timeout : Option Nat),
    s.accepts (.setCopyPolicy lanes mode threshold limit timeout) → (∀ m, mode = some m → m ≤ 1) →
    let u := (s.setCpm { s.cpm with
      laneCount := near 1 4 lanes s.cpm.laneCount,
      priority := if mode = some 0 then .fixed else if mode = some 1 then .rotating else s.cpm.priority }).setMgc { s.mgc with
        threshold := near 0 64 threshold s.mgc.threshold, passLimit := near 1 15 limit s.mgc.passLimit,
        cutoverTimeout := step timeout s.mgc.cutoverTimeout }
    exec (.setCopyPolicy lanes mode threshold limit timeout) s = .next (u.respond 19 (doneWith (le1 u.cpm.laneCount
      ++ [priorityCode u.cpm.priority] ++ le1 u.mgc.threshold ++ le1 u.mgc.passLimit ++ le2 u.mgc.cutoverTimeout)))) ∧
  (∀ (s : State) (lanes mode threshold limit timeout : Option Nat) (m : Nat),
    s.accepts (.setCopyPolicy lanes mode threshold limit timeout) → mode = some m → 1 < m →
    exec (.setCopyPolicy lanes mode threshold limit timeout) s = .next (s.respond 19 (refusedFor .badArgument))) ∧
  (∀ (s : State) (window level : Option Nat), s.accepts (.setGovernor window level) →
    let u := s.setAcg { s.acg with
      windowLength := step window s.acg.windowLength, busyLevel := near 0 65535 level s.acg.busyLevel }
    exec (.setGovernor window level) s =
      .next (u.respond 20 (doneWith (le2 u.acg.windowLength ++ le2 u.acg.busyLevel ++ le2 s.acg.windowNow)))) ∧
  (∀ (s : State) (x : Option Nat), s.accepts (.setFragmentTimeout x) →
    let t := near 1 60 x s.fre.timeout
    exec (.setFragmentTimeout x) s = .next ((s.setFre { s.fre with timeout := t }).respond 30 (doneWith (le1 t)))) ∧
  (∀ (s : State) (x : Option Nat), s.accepts (.setScrub x) →
    let u := s.setMsb { s.msb with interval := near 1 255 x s.msb.interval }
    exec (.setScrub x) s = .next (u.respond 31 (doneWith (le1 u.msb.interval ++ le1 u.msb.left ++ le1 u.msb.position
      ++ le2 u.msb.cycle.toNat ++ diagBytes u.msb.diagnostic ++ (List.range 64).flatMap u.sectionBytes)))) ∧
  (∀ (s : State) (timeout : Option Nat),
    (∀ v d x, s.accepts (.setDivert (some (v, d)) timeout) → v ≤ 15 → d ≤ 3 → s.volume v = some x →
      let t := near 1 60 timeout s.dvq.timeout
      exec (.setDivert (some (v, d)) timeout) s = .next (((s.setVolume v { x with
        divertDiscard := decide (d = 1 ∨ d = 3), divertFlush := decide (d = 2 ∨ d = 3) }).setDvq { s.dvq with timeout := t }).respond 22
          (doneWith ([BitVec.ofNat 8 d] ++ le1 t)))) ∧
    (∀ y, timeout = some y → s.accepts (.setDivert none timeout) →
      exec (.setDivert none timeout) s =
        .next ((s.setDvq { s.dvq with timeout := max 1 (min 60 y) }).respond 22 (doneWith (le1 (max 1 (min 60 y)))))))

/-- Mask requests apply their items in order, the later one deciding; CLEAR FAULTS clears each condition named and sets it again where
its cause stands. A list with an item that names nothing, or an empty one, is refused BAD-ARGUMENT (R159, R161, R164).
Model's choices in it: logs 4, 13 and 14. -/
def Obligations.MaskAndClearRequestsApplyTheirItems : Prop :=
  let last := fun (n i : Nat) (l : List MaskItem) (old : Bool) =>
    ((l.reverse.find? (fun x => decide (x.name = i ∨ (x.name = 255 ∧ i < n)))).map (fun x => decide (x.masked = 1))).getD old
  (∀ (s : State) (l : List MaskItem), s.accepts (.setNoticeMask l) → l ≠ [] →
    (∀ x ∈ l, (x.name < 10 ∨ x.name = 255) ∧ x.masked ≤ 1) →
    ∃ u : State, exec (.setNoticeMask l) s = .next (u.respond 34 (doneWith (noticeBytes u.fnu.noticeMask))) ∧
      (∀ n, n < 10 → u.fnu.noticeMask.getLsbD n = last 10 n l (s.fnu.noticeMask.getLsbD n)) ∧
      u = s.setFnu { s.fnu with noticeMask := u.fnu.noticeMask }) ∧
  (∀ (s : State) (l : List MaskItem), s.accepts (.setNoticeMask l) → (l = [] ∨ ∃ x ∈ l, ¬ ((x.name < 10 ∨ x.name = 255) ∧ x.masked ≤ 1)) →
    exec (.setNoticeMask l) s = .next (s.respond 34 (refusedFor .badArgument))) ∧
  (∀ (s : State) (a : List FaultMaskItem) (b : List MaskItem), s.accepts (.setFaultMasks a b) → ¬ (a = [] ∧ b = []) →
    (∀ x ∈ a, namedConds x.cond x.inst ≠ [] ∧ x.masked ≤ 1) → (∀ x ∈ b, (x.name < 4 ∨ x.name = 255) ∧ x.masked ≤ 1) →
    ∃ u : State, exec (.setFaultMasks a b) s = .next (u.respond 37 (doneWith
        (flagBytes 102 (fun i => u.fnu.mask1.getLsbD i) ++ flagBytes 4 (fun g => u.fnu.mask2.getLsbD g)))) ∧
      (∀ i, i < 102 → u.fnu.mask1.getLsbD i = ((a.reverse.find? (fun x => (namedConds x.cond x.inst).contains i)).map
        (fun x => decide (x.masked = 1))).getD (s.fnu.mask1.getLsbD i)) ∧
      (∀ g, g < 4 → u.fnu.mask2.getLsbD g = last 4 g b (s.fnu.mask2.getLsbD g)) ∧
      u = s.setFnu { s.fnu with mask1 := u.fnu.mask1, mask2 := u.fnu.mask2 }) ∧
  (∀ (s : State) (a : List FaultMaskItem) (b : List MaskItem), s.accepts (.setFaultMasks a b) →
    (a = [] ∧ b = []) ∨ (∃ x ∈ a, namedConds x.cond x.inst = [] ∨ 1 < x.masked) ∨ (∃ x ∈ b, ¬ ((x.name < 4 ∨ x.name = 255) ∧ x.masked ≤ 1)) →
    exec (.setFaultMasks a b) s = .next (s.respond 37 (refusedFor .badArgument))) ∧
  (∀ (s : State) (l : List FaultItem), s.accepts (.clearFaults l) → l ≠ [] → (∀ x ∈ l, namedConds x.cond x.inst ≠ []) →
    ∃ u : State, exec (.clearFaults l) s = .next (u.respond 36 (doneWith (flagBytes 102 u.condAt))) ∧
      (∀ i, i < 102 → u.condAt i = if ∃ x ∈ l, i ∈ namedConds x.cond x.inst then s.stands i else s.condAt i) ∧
      u = s.setFnu { s.fnu with conds := u.fnu.conds, resets0 := u.fnu.resets0, resets1 := u.fnu.resets1 }) ∧
  (∀ (s : State) (l : List FaultItem), s.accepts (.clearFaults l) → (l = [] ∨ ∃ x ∈ l, namedConds x.cond x.inst = []) →
    exec (.clearFaults l) s = .next (s.respond 36 (refusedFor .badArgument)))

/-- R163: READ NOTICES returns the ten flags, masked ones too, and clears all ten; the summaries are untouched and ALERT follows; a notice
raised before the read is returned and cleared, one raised after it is pending.
Model's choices in it: log 4. -/
def Obligations.ReadNoticesReturnsAndClears : Prop :=
  ∀ s : State, s.accepts .readNotices →
    ∃ u : State, exec .readNotices s = .next (u.respond 33 (doneWith (noticeBytes s.fnu.notices))) ∧
      u = { s with fnu := { s.fnu with notices := 0 } } ∧
      (∀ n, u.pendingNotice n = false) ∧ (∀ g, u.summary g = s.summary g) ∧
      (u.alert = true ↔ ∃ g, g < 4 ∧ s.summary g = true ∧ s.fnu.mask2.getLsbD g = false) ∧
      (∀ n, (u.raise n).pendingNotice n = true) ∧
      (∀ n, (s.raise n).accepts .readNotices → (s.raise n).fnu.notices.getLsbD n.bit = true ∧
        exec .readNotices (s.raise n) = .next (({ s with fnu := { s.fnu with notices := 0 } } : State).respond 33
          (doneWith (noticeBytes (s.raise n).fnu.notices))))

/-- The reading requests change nothing and answer what their rules list; a request code that names no request, or a header that does not
fit, is refused BAD-ARGUMENT with the code echoed (R4, R11, R17, R78, R99, R123, R145, R160, R167, R174). The body of READ EXTENTS is spelled out;
the others are named by the model's body functions, whose open forms are choices of the model.
Model's choices in it: logs 4, 5 and 14. -/
def Obligations.ReadsChangeNothing : Prop :=
  (∀ (s : State) (g f k : Nat), s.accepts (.readGroup g f k) → g ≤ 255 → k ≤ 256 →
    (k = 0 ∨ ∃ x, s.group g = some x ∧ x.active = true ∧ f + k ≤ x.layout.bands) →
    exec (.readGroup g f k) s = .next (s.respond 4 (doneWith (readGroupBody g f k s)))) ∧
  (∀ (s : State) (v : Nat), s.accepts (.readVolume v) → v ≤ 15 →
    exec (.readVolume v) s = .next (s.respond 7 (doneWith (readVolumeBody v s)))) ∧
  (∀ (s : State) (v f k : Nat) (x : Volume), s.accepts (.readExtents v f k) → v ≤ 15 → 1 ≤ k → k ≤ 1024 → s.volume v = some x →
    f + k ≤ x.count → exec (.readExtents v f k) s = .next (s.respond 9 (doneWith ((List.range k).flatMap (fun j =>
      extBytes (s.recAt (x.mapBase + f + j)) (s.fencedAt (x.mapBase + f + j))))))) ∧
  (∀ (s : State) (f k : Nat), s.accepts (.readInitiators f k) → 1 ≤ k → f + k ≤ 64 →
    exec (.readInitiators f k) s = .next (s.respond 12 (doneWith (readInitiatorsBody f k s)))) ∧
  (∀ (s : State) (i : Nat), s.accepts (.readSlot i) → i ≤ 3 →
    exec (.readSlot i) s = .next (s.respond 18 (doneWith (s.slotBytes i)))) ∧
  (∀ s : State, s.accepts .readSample → exec .readSample s = .next (s.respond 21 (doneWith s.sampleBytes))) ∧
  (∀ s : State, s.accepts .readDiversions → exec .readDiversions s = .next (s.respond 23 (doneWith (readDiversionsBody s)))) ∧
  (∀ (s : State) (p : Nat), s.accepts (.readShelf p) → p ≤ 7 →
    exec (.readShelf p) s = .next (s.respond 29 (doneWith (s.shelfPortBytes p)))) ∧
  (∀ s : State, s.accepts .readFaults → exec .readFaults s = .next (s.respond 35 (doneWith (faultsBody s)))) ∧
  (∀ (s : State) (code : BitVec 16), s.accepts (.unknownRequestCode code) →
    exec (.unknownRequestCode code) s = .next (s.respond code (refusedFor .badArgument)))

/-- RESET BRIDGE: its response is formed first, or discarded where a host port reset took its CONTROL; then every command in an admission
queue, and every command in the Command Table that is not ISSUED, is answered ABORTED, and an ISSUED one is marked; the re-entry list, the
Diversion Queue and the management queue are empty, MOVING and ZEROING records of UNFENCED sections go back, only kind 1 holds stay, every slot is FREE with
its kept fields, the lanes stop, the governor starts afresh and every notice is cleared; the rest is kept (R175).
Model's choices in it: logs 4 and 26. -/
def Obligations.ResetBridgeStopsTheWork : Prop :=
  ∀ s : State, s.accepts .resetBridge → ∃ t : State, exec .resetBridge s = .next t ∧
    let u := s.respond 38 (doneWith [])
    t.responses = u.responses ∧
    (s.mgu.orphan = none → t.responses = s.responses ++ [{ code := 38, refused := none, attention := s.alert, body := [] }]) ∧
    (s.mgu.orphan.isSome = true → t.responses = s.responses) ∧
    t.hli = { s.hli with queue0 := [], queue1 := [] } ∧ t.mgu = .reset ∧ t.fre.reentry = [] ∧
    (s.TablesInOrder → ∃ sent, t.hostOut = u.hostOut ++ sent ∧
      sent.Perm ((s.queue .hp0).map (fun r => (HostPort.hp0, plainStatus r.tag .aborted))
        ++ (s.queue .hp1).map (fun r => (HostPort.hp1, plainStatus r.tag .aborted))
        ++ (u.fre.commands.filter (fun c => match c.2.state with | .issued _ => false | _ => true)).map
          (fun c => (c.2.port, plainStatus c.2.record.tag .aborted)))) ∧
    (∀ e, t.command e = (u.command e).bind (fun c => match c.state with
      | .issued i => some { c with state := .issued { i with abort := true } }
      | _ => none)) ∧
    t.fre.frags = s.fre.frags ∧ t.fre.useCounts = s.fre.useCounts ∧ t.fre.timeout = s.fre.timeout ∧
    (∀ i, t.recAt i = if s.fencedAt i then s.recAt i else match (s.recAt i).state with
      | .moving => { s.recAt i with state := .plain, slot := none }
      | .zeroing => { s.recAt i with state := .zero, slot := none }
      | _ => s.recAt i) ∧
    t.lmu.volumes = s.lmu.volumes ∧ t.lmu.groups = s.lmu.groups ∧
    t.lmu.bands = s.lmu.bands.filter (fun b => match b.2 with | .record _ => true | _ => false) ∧
    (∀ i, t.slot i = { s.slot i with claim := none, pause := false }) ∧ t.mgc.flushFrags = s.mgc.flushFrags ∧
    (∀ l, l < 4 → t.lane l = match (s.lane l).state with
      | .granted => { Lane.initial with seq := (s.lane l).seq }
      | .reading => if (s.lane l).frags = [] then { Lane.initial with seq := (s.lane l).seq }
          else { s.lane l with state := .stopping, buffer := [] }
      | .writing => if (s.lane l).frags = [] then { Lane.initial with seq := (s.lane l).seq }
          else { s.lane l with state := .stopping, buffer := [] }
      | _ => s.lane l) ∧
    t.cpm.rotation = 3 ∧ t.acg = { s.acg with
      hostCounts := [], copyCounts := [], sample := .initial, windowNow := s.acg.windowLength, windowLeft := s.acg.windowLength } ∧
    t.dvq = { s.dvq with entries := [], order := [] } ∧ t.fnu = { s.fnu with notices := 0 } ∧ t.cau = s.cau ∧ t.spc = s.spc ∧
    (∀ k, (t.sect k).fenced = (s.sect k).fenced ∧ (t.sect k).reload = (s.sect k).reload ∧ (t.sect k).fence = (s.sect k).fence) ∧
    t.msb = { s.msb with sections := t.msb.sections } ∧ t.shelfOut = s.shelfOut
end

