-- ==== Sys2Proof/Laws/State.lean ====
section
/-! SUPPORT. One lemma per field per update of the state, each true by `rfl`. -/

namespace Sys2Proof.Machine

@[simp] theorem State.setLmu_pending (s : State) (x : Lmu) : (s.setLmu x).pending = s.pending := rfl
@[simp] theorem State.setLmu_resetn (s : State) (x : Lmu) : (s.setLmu x).resetn = s.resetn := rfl
@[simp] theorem State.setLmu_lmu (s : State) (x : Lmu) : (s.setLmu x).lmu = x := rfl
@[simp] theorem State.setLmu_hli (s : State) (x : Lmu) : (s.setLmu x).hli = s.hli := rfl
@[simp] theorem State.setLmu_cau (s : State) (x : Lmu) : (s.setLmu x).cau = s.cau := rfl
@[simp] theorem State.setLmu_fre (s : State) (x : Lmu) : (s.setLmu x).fre = s.fre := rfl
@[simp] theorem State.setLmu_mgc (s : State) (x : Lmu) : (s.setLmu x).mgc = s.mgc := rfl
@[simp] theorem State.setLmu_cpm (s : State) (x : Lmu) : (s.setLmu x).cpm = s.cpm := rfl
@[simp] theorem State.setLmu_acg (s : State) (x : Lmu) : (s.setLmu x).acg = s.acg := rfl
@[simp] theorem State.setLmu_dvq (s : State) (x : Lmu) : (s.setLmu x).dvq = s.dvq := rfl
@[simp] theorem State.setLmu_spc (s : State) (x : Lmu) : (s.setLmu x).spc = s.spc := rfl
@[simp] theorem State.setLmu_msb (s : State) (x : Lmu) : (s.setLmu x).msb = s.msb := rfl
@[simp] theorem State.setLmu_fnu (s : State) (x : Lmu) : (s.setLmu x).fnu = s.fnu := rfl
@[simp] theorem State.setLmu_mgu (s : State) (x : Lmu) : (s.setLmu x).mgu = s.mgu := rfl
@[simp] theorem State.setLmu_hostOut (s : State) (x : Lmu) : (s.setLmu x).hostOut = s.hostOut := rfl
@[simp] theorem State.setLmu_shelfOut (s : State) (x : Lmu) : (s.setLmu x).shelfOut = s.shelfOut := rfl
@[simp] theorem State.setLmu_responses (s : State) (x : Lmu) : (s.setLmu x).responses = s.responses := rfl
@[simp] theorem State.setLmu_freeCount (s : State) (x : Lmu) : (s.setLmu x).freeCount = s.freeCount := rfl

@[simp] theorem State.setHli_pending (s : State) (x : Hli) : (s.setHli x).pending = s.pending := rfl
@[simp] theorem State.setHli_resetn (s : State) (x : Hli) : (s.setHli x).resetn = s.resetn := rfl
@[simp] theorem State.setHli_lmu (s : State) (x : Hli) : (s.setHli x).lmu = s.lmu := rfl
@[simp] theorem State.setHli_hli (s : State) (x : Hli) : (s.setHli x).hli = x := rfl
@[simp] theorem State.setHli_cau (s : State) (x : Hli) : (s.setHli x).cau = s.cau := rfl
@[simp] theorem State.setHli_fre (s : State) (x : Hli) : (s.setHli x).fre = s.fre := rfl
@[simp] theorem State.setHli_mgc (s : State) (x : Hli) : (s.setHli x).mgc = s.mgc := rfl
@[simp] theorem State.setHli_cpm (s : State) (x : Hli) : (s.setHli x).cpm = s.cpm := rfl
@[simp] theorem State.setHli_acg (s : State) (x : Hli) : (s.setHli x).acg = s.acg := rfl
@[simp] theorem State.setHli_dvq (s : State) (x : Hli) : (s.setHli x).dvq = s.dvq := rfl
@[simp] theorem State.setHli_spc (s : State) (x : Hli) : (s.setHli x).spc = s.spc := rfl
@[simp] theorem State.setHli_msb (s : State) (x : Hli) : (s.setHli x).msb = s.msb := rfl
@[simp] theorem State.setHli_fnu (s : State) (x : Hli) : (s.setHli x).fnu = s.fnu := rfl
@[simp] theorem State.setHli_mgu (s : State) (x : Hli) : (s.setHli x).mgu = s.mgu := rfl
@[simp] theorem State.setHli_hostOut (s : State) (x : Hli) : (s.setHli x).hostOut = s.hostOut := rfl
@[simp] theorem State.setHli_shelfOut (s : State) (x : Hli) : (s.setHli x).shelfOut = s.shelfOut := rfl
@[simp] theorem State.setHli_responses (s : State) (x : Hli) : (s.setHli x).responses = s.responses := rfl
@[simp] theorem State.setHli_freeCount (s : State) (x : Hli) : (s.setHli x).freeCount = s.freeCount := rfl

@[simp] theorem State.setCau_pending (s : State) (x : Cau) : (s.setCau x).pending = s.pending := rfl
@[simp] theorem State.setCau_resetn (s : State) (x : Cau) : (s.setCau x).resetn = s.resetn := rfl
@[simp] theorem State.setCau_lmu (s : State) (x : Cau) : (s.setCau x).lmu = s.lmu := rfl
@[simp] theorem State.setCau_hli (s : State) (x : Cau) : (s.setCau x).hli = s.hli := rfl
@[simp] theorem State.setCau_cau (s : State) (x : Cau) : (s.setCau x).cau = x := rfl
@[simp] theorem State.setCau_fre (s : State) (x : Cau) : (s.setCau x).fre = s.fre := rfl
@[simp] theorem State.setCau_mgc (s : State) (x : Cau) : (s.setCau x).mgc = s.mgc := rfl
@[simp] theorem State.setCau_cpm (s : State) (x : Cau) : (s.setCau x).cpm = s.cpm := rfl
@[simp] theorem State.setCau_acg (s : State) (x : Cau) : (s.setCau x).acg = s.acg := rfl
@[simp] theorem State.setCau_dvq (s : State) (x : Cau) : (s.setCau x).dvq = s.dvq := rfl
@[simp] theorem State.setCau_spc (s : State) (x : Cau) : (s.setCau x).spc = s.spc := rfl
@[simp] theorem State.setCau_msb (s : State) (x : Cau) : (s.setCau x).msb = s.msb := rfl
@[simp] theorem State.setCau_fnu (s : State) (x : Cau) : (s.setCau x).fnu = s.fnu := rfl
@[simp] theorem State.setCau_mgu (s : State) (x : Cau) : (s.setCau x).mgu = s.mgu := rfl
@[simp] theorem State.setCau_hostOut (s : State) (x : Cau) : (s.setCau x).hostOut = s.hostOut := rfl
@[simp] theorem State.setCau_shelfOut (s : State) (x : Cau) : (s.setCau x).shelfOut = s.shelfOut := rfl
@[simp] theorem State.setCau_responses (s : State) (x : Cau) : (s.setCau x).responses = s.responses := rfl
@[simp] theorem State.setCau_freeCount (s : State) (x : Cau) : (s.setCau x).freeCount = s.freeCount := rfl

@[simp] theorem State.setFre_pending (s : State) (x : Fre) : (s.setFre x).pending = s.pending := rfl
@[simp] theorem State.setFre_resetn (s : State) (x : Fre) : (s.setFre x).resetn = s.resetn := rfl
@[simp] theorem State.setFre_lmu (s : State) (x : Fre) : (s.setFre x).lmu = s.lmu := rfl
@[simp] theorem State.setFre_hli (s : State) (x : Fre) : (s.setFre x).hli = s.hli := rfl
@[simp] theorem State.setFre_cau (s : State) (x : Fre) : (s.setFre x).cau = s.cau := rfl
@[simp] theorem State.setFre_fre (s : State) (x : Fre) : (s.setFre x).fre = x := rfl
@[simp] theorem State.setFre_mgc (s : State) (x : Fre) : (s.setFre x).mgc = s.mgc := rfl
@[simp] theorem State.setFre_cpm (s : State) (x : Fre) : (s.setFre x).cpm = s.cpm := rfl
@[simp] theorem State.setFre_acg (s : State) (x : Fre) : (s.setFre x).acg = s.acg := rfl
@[simp] theorem State.setFre_dvq (s : State) (x : Fre) : (s.setFre x).dvq = s.dvq := rfl
@[simp] theorem State.setFre_spc (s : State) (x : Fre) : (s.setFre x).spc = s.spc := rfl
@[simp] theorem State.setFre_msb (s : State) (x : Fre) : (s.setFre x).msb = s.msb := rfl
@[simp] theorem State.setFre_fnu (s : State) (x : Fre) : (s.setFre x).fnu = s.fnu := rfl
@[simp] theorem State.setFre_mgu (s : State) (x : Fre) : (s.setFre x).mgu = s.mgu := rfl
@[simp] theorem State.setFre_hostOut (s : State) (x : Fre) : (s.setFre x).hostOut = s.hostOut := rfl
@[simp] theorem State.setFre_shelfOut (s : State) (x : Fre) : (s.setFre x).shelfOut = s.shelfOut := rfl
@[simp] theorem State.setFre_responses (s : State) (x : Fre) : (s.setFre x).responses = s.responses := rfl
@[simp] theorem State.setFre_freeCount (s : State) (x : Fre) : (s.setFre x).freeCount = s.freeCount := rfl

@[simp] theorem State.setMgc_pending (s : State) (x : Mgc) : (s.setMgc x).pending = s.pending := rfl
@[simp] theorem State.setMgc_resetn (s : State) (x : Mgc) : (s.setMgc x).resetn = s.resetn := rfl
@[simp] theorem State.setMgc_lmu (s : State) (x : Mgc) : (s.setMgc x).lmu = s.lmu := rfl
@[simp] theorem State.setMgc_hli (s : State) (x : Mgc) : (s.setMgc x).hli = s.hli := rfl
@[simp] theorem State.setMgc_cau (s : State) (x : Mgc) : (s.setMgc x).cau = s.cau := rfl
@[simp] theorem State.setMgc_fre (s : State) (x : Mgc) : (s.setMgc x).fre = s.fre := rfl
@[simp] theorem State.setMgc_mgc (s : State) (x : Mgc) : (s.setMgc x).mgc = x := rfl
@[simp] theorem State.setMgc_cpm (s : State) (x : Mgc) : (s.setMgc x).cpm = s.cpm := rfl
@[simp] theorem State.setMgc_acg (s : State) (x : Mgc) : (s.setMgc x).acg = s.acg := rfl
@[simp] theorem State.setMgc_dvq (s : State) (x : Mgc) : (s.setMgc x).dvq = s.dvq := rfl
@[simp] theorem State.setMgc_spc (s : State) (x : Mgc) : (s.setMgc x).spc = s.spc := rfl
@[simp] theorem State.setMgc_msb (s : State) (x : Mgc) : (s.setMgc x).msb = s.msb := rfl
@[simp] theorem State.setMgc_fnu (s : State) (x : Mgc) : (s.setMgc x).fnu = s.fnu := rfl
@[simp] theorem State.setMgc_mgu (s : State) (x : Mgc) : (s.setMgc x).mgu = s.mgu := rfl
@[simp] theorem State.setMgc_hostOut (s : State) (x : Mgc) : (s.setMgc x).hostOut = s.hostOut := rfl
@[simp] theorem State.setMgc_shelfOut (s : State) (x : Mgc) : (s.setMgc x).shelfOut = s.shelfOut := rfl
@[simp] theorem State.setMgc_responses (s : State) (x : Mgc) : (s.setMgc x).responses = s.responses := rfl
@[simp] theorem State.setMgc_freeCount (s : State) (x : Mgc) : (s.setMgc x).freeCount = s.freeCount := rfl

@[simp] theorem State.setCpm_pending (s : State) (x : Cpm) : (s.setCpm x).pending = s.pending := rfl
@[simp] theorem State.setCpm_resetn (s : State) (x : Cpm) : (s.setCpm x).resetn = s.resetn := rfl
@[simp] theorem State.setCpm_lmu (s : State) (x : Cpm) : (s.setCpm x).lmu = s.lmu := rfl
@[simp] theorem State.setCpm_hli (s : State) (x : Cpm) : (s.setCpm x).hli = s.hli := rfl
@[simp] theorem State.setCpm_cau (s : State) (x : Cpm) : (s.setCpm x).cau = s.cau := rfl
@[simp] theorem State.setCpm_fre (s : State) (x : Cpm) : (s.setCpm x).fre = s.fre := rfl
@[simp] theorem State.setCpm_mgc (s : State) (x : Cpm) : (s.setCpm x).mgc = s.mgc := rfl
@[simp] theorem State.setCpm_cpm (s : State) (x : Cpm) : (s.setCpm x).cpm = x := rfl
@[simp] theorem State.setCpm_acg (s : State) (x : Cpm) : (s.setCpm x).acg = s.acg := rfl
@[simp] theorem State.setCpm_dvq (s : State) (x : Cpm) : (s.setCpm x).dvq = s.dvq := rfl
@[simp] theorem State.setCpm_spc (s : State) (x : Cpm) : (s.setCpm x).spc = s.spc := rfl
@[simp] theorem State.setCpm_msb (s : State) (x : Cpm) : (s.setCpm x).msb = s.msb := rfl
@[simp] theorem State.setCpm_fnu (s : State) (x : Cpm) : (s.setCpm x).fnu = s.fnu := rfl
@[simp] theorem State.setCpm_mgu (s : State) (x : Cpm) : (s.setCpm x).mgu = s.mgu := rfl
@[simp] theorem State.setCpm_hostOut (s : State) (x : Cpm) : (s.setCpm x).hostOut = s.hostOut := rfl
@[simp] theorem State.setCpm_shelfOut (s : State) (x : Cpm) : (s.setCpm x).shelfOut = s.shelfOut := rfl
@[simp] theorem State.setCpm_responses (s : State) (x : Cpm) : (s.setCpm x).responses = s.responses := rfl
@[simp] theorem State.setCpm_freeCount (s : State) (x : Cpm) : (s.setCpm x).freeCount = s.freeCount := rfl

@[simp] theorem State.setAcg_pending (s : State) (x : Acg) : (s.setAcg x).pending = s.pending := rfl
@[simp] theorem State.setAcg_resetn (s : State) (x : Acg) : (s.setAcg x).resetn = s.resetn := rfl
@[simp] theorem State.setAcg_lmu (s : State) (x : Acg) : (s.setAcg x).lmu = s.lmu := rfl
@[simp] theorem State.setAcg_hli (s : State) (x : Acg) : (s.setAcg x).hli = s.hli := rfl
@[simp] theorem State.setAcg_cau (s : State) (x : Acg) : (s.setAcg x).cau = s.cau := rfl
@[simp] theorem State.setAcg_fre (s : State) (x : Acg) : (s.setAcg x).fre = s.fre := rfl
@[simp] theorem State.setAcg_mgc (s : State) (x : Acg) : (s.setAcg x).mgc = s.mgc := rfl
@[simp] theorem State.setAcg_cpm (s : State) (x : Acg) : (s.setAcg x).cpm = s.cpm := rfl
@[simp] theorem State.setAcg_acg (s : State) (x : Acg) : (s.setAcg x).acg = x := rfl
@[simp] theorem State.setAcg_dvq (s : State) (x : Acg) : (s.setAcg x).dvq = s.dvq := rfl
@[simp] theorem State.setAcg_spc (s : State) (x : Acg) : (s.setAcg x).spc = s.spc := rfl
@[simp] theorem State.setAcg_msb (s : State) (x : Acg) : (s.setAcg x).msb = s.msb := rfl
@[simp] theorem State.setAcg_fnu (s : State) (x : Acg) : (s.setAcg x).fnu = s.fnu := rfl
@[simp] theorem State.setAcg_mgu (s : State) (x : Acg) : (s.setAcg x).mgu = s.mgu := rfl
@[simp] theorem State.setAcg_hostOut (s : State) (x : Acg) : (s.setAcg x).hostOut = s.hostOut := rfl
@[simp] theorem State.setAcg_shelfOut (s : State) (x : Acg) : (s.setAcg x).shelfOut = s.shelfOut := rfl
@[simp] theorem State.setAcg_responses (s : State) (x : Acg) : (s.setAcg x).responses = s.responses := rfl
@[simp] theorem State.setAcg_freeCount (s : State) (x : Acg) : (s.setAcg x).freeCount = s.freeCount := rfl

@[simp] theorem State.setDvq_pending (s : State) (x : Dvq) : (s.setDvq x).pending = s.pending := rfl
@[simp] theorem State.setDvq_resetn (s : State) (x : Dvq) : (s.setDvq x).resetn = s.resetn := rfl
@[simp] theorem State.setDvq_lmu (s : State) (x : Dvq) : (s.setDvq x).lmu = s.lmu := rfl
@[simp] theorem State.setDvq_hli (s : State) (x : Dvq) : (s.setDvq x).hli = s.hli := rfl
@[simp] theorem State.setDvq_cau (s : State) (x : Dvq) : (s.setDvq x).cau = s.cau := rfl
@[simp] theorem State.setDvq_fre (s : State) (x : Dvq) : (s.setDvq x).fre = s.fre := rfl
@[simp] theorem State.setDvq_mgc (s : State) (x : Dvq) : (s.setDvq x).mgc = s.mgc := rfl
@[simp] theorem State.setDvq_cpm (s : State) (x : Dvq) : (s.setDvq x).cpm = s.cpm := rfl
@[simp] theorem State.setDvq_acg (s : State) (x : Dvq) : (s.setDvq x).acg = s.acg := rfl
@[simp] theorem State.setDvq_dvq (s : State) (x : Dvq) : (s.setDvq x).dvq = x := rfl
@[simp] theorem State.setDvq_spc (s : State) (x : Dvq) : (s.setDvq x).spc = s.spc := rfl
@[simp] theorem State.setDvq_msb (s : State) (x : Dvq) : (s.setDvq x).msb = s.msb := rfl
@[simp] theorem State.setDvq_fnu (s : State) (x : Dvq) : (s.setDvq x).fnu = s.fnu := rfl
@[simp] theorem State.setDvq_mgu (s : State) (x : Dvq) : (s.setDvq x).mgu = s.mgu := rfl
@[simp] theorem State.setDvq_hostOut (s : State) (x : Dvq) : (s.setDvq x).hostOut = s.hostOut := rfl
@[simp] theorem State.setDvq_shelfOut (s : State) (x : Dvq) : (s.setDvq x).shelfOut = s.shelfOut := rfl
@[simp] theorem State.setDvq_responses (s : State) (x : Dvq) : (s.setDvq x).responses = s.responses := rfl
@[simp] theorem State.setDvq_freeCount (s : State) (x : Dvq) : (s.setDvq x).freeCount = s.freeCount := rfl

@[simp] theorem State.setSpc_pending (s : State) (x : Spc) : (s.setSpc x).pending = s.pending := rfl
@[simp] theorem State.setSpc_resetn (s : State) (x : Spc) : (s.setSpc x).resetn = s.resetn := rfl
@[simp] theorem State.setSpc_lmu (s : State) (x : Spc) : (s.setSpc x).lmu = s.lmu := rfl
@[simp] theorem State.setSpc_hli (s : State) (x : Spc) : (s.setSpc x).hli = s.hli := rfl
@[simp] theorem State.setSpc_cau (s : State) (x : Spc) : (s.setSpc x).cau = s.cau := rfl
@[simp] theorem State.setSpc_fre (s : State) (x : Spc) : (s.setSpc x).fre = s.fre := rfl
@[simp] theorem State.setSpc_mgc (s : State) (x : Spc) : (s.setSpc x).mgc = s.mgc := rfl
@[simp] theorem State.setSpc_cpm (s : State) (x : Spc) : (s.setSpc x).cpm = s.cpm := rfl
@[simp] theorem State.setSpc_acg (s : State) (x : Spc) : (s.setSpc x).acg = s.acg := rfl
@[simp] theorem State.setSpc_dvq (s : State) (x : Spc) : (s.setSpc x).dvq = s.dvq := rfl
@[simp] theorem State.setSpc_spc (s : State) (x : Spc) : (s.setSpc x).spc = x := rfl
@[simp] theorem State.setSpc_msb (s : State) (x : Spc) : (s.setSpc x).msb = s.msb := rfl
@[simp] theorem State.setSpc_fnu (s : State) (x : Spc) : (s.setSpc x).fnu = s.fnu := rfl
@[simp] theorem State.setSpc_mgu (s : State) (x : Spc) : (s.setSpc x).mgu = s.mgu := rfl
@[simp] theorem State.setSpc_hostOut (s : State) (x : Spc) : (s.setSpc x).hostOut = s.hostOut := rfl
@[simp] theorem State.setSpc_shelfOut (s : State) (x : Spc) : (s.setSpc x).shelfOut = s.shelfOut := rfl
@[simp] theorem State.setSpc_responses (s : State) (x : Spc) : (s.setSpc x).responses = s.responses := rfl
@[simp] theorem State.setSpc_freeCount (s : State) (x : Spc) : (s.setSpc x).freeCount = s.freeCount := rfl

@[simp] theorem State.setMsb_pending (s : State) (x : Msb) : (s.setMsb x).pending = s.pending := rfl
@[simp] theorem State.setMsb_resetn (s : State) (x : Msb) : (s.setMsb x).resetn = s.resetn := rfl
@[simp] theorem State.setMsb_lmu (s : State) (x : Msb) : (s.setMsb x).lmu = s.lmu := rfl
@[simp] theorem State.setMsb_hli (s : State) (x : Msb) : (s.setMsb x).hli = s.hli := rfl
@[simp] theorem State.setMsb_cau (s : State) (x : Msb) : (s.setMsb x).cau = s.cau := rfl
@[simp] theorem State.setMsb_fre (s : State) (x : Msb) : (s.setMsb x).fre = s.fre := rfl
@[simp] theorem State.setMsb_mgc (s : State) (x : Msb) : (s.setMsb x).mgc = s.mgc := rfl
@[simp] theorem State.setMsb_cpm (s : State) (x : Msb) : (s.setMsb x).cpm = s.cpm := rfl
@[simp] theorem State.setMsb_acg (s : State) (x : Msb) : (s.setMsb x).acg = s.acg := rfl
@[simp] theorem State.setMsb_dvq (s : State) (x : Msb) : (s.setMsb x).dvq = s.dvq := rfl
@[simp] theorem State.setMsb_spc (s : State) (x : Msb) : (s.setMsb x).spc = s.spc := rfl
@[simp] theorem State.setMsb_msb (s : State) (x : Msb) : (s.setMsb x).msb = x := rfl
@[simp] theorem State.setMsb_fnu (s : State) (x : Msb) : (s.setMsb x).fnu = s.fnu := rfl
@[simp] theorem State.setMsb_mgu (s : State) (x : Msb) : (s.setMsb x).mgu = s.mgu := rfl
@[simp] theorem State.setMsb_hostOut (s : State) (x : Msb) : (s.setMsb x).hostOut = s.hostOut := rfl
@[simp] theorem State.setMsb_shelfOut (s : State) (x : Msb) : (s.setMsb x).shelfOut = s.shelfOut := rfl
@[simp] theorem State.setMsb_responses (s : State) (x : Msb) : (s.setMsb x).responses = s.responses := rfl
@[simp] theorem State.setMsb_freeCount (s : State) (x : Msb) : (s.setMsb x).freeCount = s.freeCount := rfl

@[simp] theorem State.setFnu_pending (s : State) (x : Fnu) : (s.setFnu x).pending = s.pending := rfl
@[simp] theorem State.setFnu_resetn (s : State) (x : Fnu) : (s.setFnu x).resetn = s.resetn := rfl
@[simp] theorem State.setFnu_lmu (s : State) (x : Fnu) : (s.setFnu x).lmu = s.lmu := rfl
@[simp] theorem State.setFnu_hli (s : State) (x : Fnu) : (s.setFnu x).hli = s.hli := rfl
@[simp] theorem State.setFnu_cau (s : State) (x : Fnu) : (s.setFnu x).cau = s.cau := rfl
@[simp] theorem State.setFnu_fre (s : State) (x : Fnu) : (s.setFnu x).fre = s.fre := rfl
@[simp] theorem State.setFnu_mgc (s : State) (x : Fnu) : (s.setFnu x).mgc = s.mgc := rfl
@[simp] theorem State.setFnu_cpm (s : State) (x : Fnu) : (s.setFnu x).cpm = s.cpm := rfl
@[simp] theorem State.setFnu_acg (s : State) (x : Fnu) : (s.setFnu x).acg = s.acg := rfl
@[simp] theorem State.setFnu_dvq (s : State) (x : Fnu) : (s.setFnu x).dvq = s.dvq := rfl
@[simp] theorem State.setFnu_spc (s : State) (x : Fnu) : (s.setFnu x).spc = s.spc := rfl
@[simp] theorem State.setFnu_msb (s : State) (x : Fnu) : (s.setFnu x).msb = s.msb := rfl
@[simp] theorem State.setFnu_fnu (s : State) (x : Fnu) : (s.setFnu x).fnu = x := rfl
@[simp] theorem State.setFnu_mgu (s : State) (x : Fnu) : (s.setFnu x).mgu = s.mgu := rfl
@[simp] theorem State.setFnu_hostOut (s : State) (x : Fnu) : (s.setFnu x).hostOut = s.hostOut := rfl
@[simp] theorem State.setFnu_shelfOut (s : State) (x : Fnu) : (s.setFnu x).shelfOut = s.shelfOut := rfl
@[simp] theorem State.setFnu_responses (s : State) (x : Fnu) : (s.setFnu x).responses = s.responses := rfl
@[simp] theorem State.setFnu_freeCount (s : State) (x : Fnu) : (s.setFnu x).freeCount = s.freeCount := rfl

@[simp] theorem State.setMgu_pending (s : State) (x : Mgu) : (s.setMgu x).pending = s.pending := rfl
@[simp] theorem State.setMgu_resetn (s : State) (x : Mgu) : (s.setMgu x).resetn = s.resetn := rfl
@[simp] theorem State.setMgu_lmu (s : State) (x : Mgu) : (s.setMgu x).lmu = s.lmu := rfl
@[simp] theorem State.setMgu_hli (s : State) (x : Mgu) : (s.setMgu x).hli = s.hli := rfl
@[simp] theorem State.setMgu_cau (s : State) (x : Mgu) : (s.setMgu x).cau = s.cau := rfl
@[simp] theorem State.setMgu_fre (s : State) (x : Mgu) : (s.setMgu x).fre = s.fre := rfl
@[simp] theorem State.setMgu_mgc (s : State) (x : Mgu) : (s.setMgu x).mgc = s.mgc := rfl
@[simp] theorem State.setMgu_cpm (s : State) (x : Mgu) : (s.setMgu x).cpm = s.cpm := rfl
@[simp] theorem State.setMgu_acg (s : State) (x : Mgu) : (s.setMgu x).acg = s.acg := rfl
@[simp] theorem State.setMgu_dvq (s : State) (x : Mgu) : (s.setMgu x).dvq = s.dvq := rfl
@[simp] theorem State.setMgu_spc (s : State) (x : Mgu) : (s.setMgu x).spc = s.spc := rfl
@[simp] theorem State.setMgu_msb (s : State) (x : Mgu) : (s.setMgu x).msb = s.msb := rfl
@[simp] theorem State.setMgu_fnu (s : State) (x : Mgu) : (s.setMgu x).fnu = s.fnu := rfl
@[simp] theorem State.setMgu_mgu (s : State) (x : Mgu) : (s.setMgu x).mgu = x := rfl
@[simp] theorem State.setMgu_hostOut (s : State) (x : Mgu) : (s.setMgu x).hostOut = s.hostOut := rfl
@[simp] theorem State.setMgu_shelfOut (s : State) (x : Mgu) : (s.setMgu x).shelfOut = s.shelfOut := rfl
@[simp] theorem State.setMgu_responses (s : State) (x : Mgu) : (s.setMgu x).responses = s.responses := rfl
@[simp] theorem State.setMgu_freeCount (s : State) (x : Mgu) : (s.setMgu x).freeCount = s.freeCount := rfl

@[simp] theorem State.setPending_pending (s : State) (x : List Instr) : (s.setPending x).pending = x := rfl
@[simp] theorem State.setPending_resetn (s : State) (x : List Instr) : (s.setPending x).resetn = s.resetn := rfl
@[simp] theorem State.setPending_lmu (s : State) (x : List Instr) : (s.setPending x).lmu = s.lmu := rfl
@[simp] theorem State.setPending_hli (s : State) (x : List Instr) : (s.setPending x).hli = s.hli := rfl
@[simp] theorem State.setPending_cau (s : State) (x : List Instr) : (s.setPending x).cau = s.cau := rfl
@[simp] theorem State.setPending_fre (s : State) (x : List Instr) : (s.setPending x).fre = s.fre := rfl
@[simp] theorem State.setPending_mgc (s : State) (x : List Instr) : (s.setPending x).mgc = s.mgc := rfl
@[simp] theorem State.setPending_cpm (s : State) (x : List Instr) : (s.setPending x).cpm = s.cpm := rfl
@[simp] theorem State.setPending_acg (s : State) (x : List Instr) : (s.setPending x).acg = s.acg := rfl
@[simp] theorem State.setPending_dvq (s : State) (x : List Instr) : (s.setPending x).dvq = s.dvq := rfl
@[simp] theorem State.setPending_spc (s : State) (x : List Instr) : (s.setPending x).spc = s.spc := rfl
@[simp] theorem State.setPending_msb (s : State) (x : List Instr) : (s.setPending x).msb = s.msb := rfl
@[simp] theorem State.setPending_fnu (s : State) (x : List Instr) : (s.setPending x).fnu = s.fnu := rfl
@[simp] theorem State.setPending_mgu (s : State) (x : List Instr) : (s.setPending x).mgu = s.mgu := rfl
@[simp] theorem State.setPending_hostOut (s : State) (x : List Instr) : (s.setPending x).hostOut = s.hostOut := rfl
@[simp] theorem State.setPending_shelfOut (s : State) (x : List Instr) : (s.setPending x).shelfOut = s.shelfOut := rfl
@[simp] theorem State.setPending_responses (s : State) (x : List Instr) : (s.setPending x).responses = s.responses := rfl
@[simp] theorem State.setPending_freeCount (s : State) (x : List Instr) : (s.setPending x).freeCount = s.freeCount := rfl

@[simp] theorem State.setResetn_pending (s : State) (x : Bool) : (s.setResetn x).pending = s.pending := rfl
@[simp] theorem State.setResetn_resetn (s : State) (x : Bool) : (s.setResetn x).resetn = x := rfl
@[simp] theorem State.setResetn_lmu (s : State) (x : Bool) : (s.setResetn x).lmu = s.lmu := rfl
@[simp] theorem State.setResetn_hli (s : State) (x : Bool) : (s.setResetn x).hli = s.hli := rfl
@[simp] theorem State.setResetn_cau (s : State) (x : Bool) : (s.setResetn x).cau = s.cau := rfl
@[simp] theorem State.setResetn_fre (s : State) (x : Bool) : (s.setResetn x).fre = s.fre := rfl
@[simp] theorem State.setResetn_mgc (s : State) (x : Bool) : (s.setResetn x).mgc = s.mgc := rfl
@[simp] theorem State.setResetn_cpm (s : State) (x : Bool) : (s.setResetn x).cpm = s.cpm := rfl
@[simp] theorem State.setResetn_acg (s : State) (x : Bool) : (s.setResetn x).acg = s.acg := rfl
@[simp] theorem State.setResetn_dvq (s : State) (x : Bool) : (s.setResetn x).dvq = s.dvq := rfl
@[simp] theorem State.setResetn_spc (s : State) (x : Bool) : (s.setResetn x).spc = s.spc := rfl
@[simp] theorem State.setResetn_msb (s : State) (x : Bool) : (s.setResetn x).msb = s.msb := rfl
@[simp] theorem State.setResetn_fnu (s : State) (x : Bool) : (s.setResetn x).fnu = s.fnu := rfl
@[simp] theorem State.setResetn_mgu (s : State) (x : Bool) : (s.setResetn x).mgu = s.mgu := rfl
@[simp] theorem State.setResetn_hostOut (s : State) (x : Bool) : (s.setResetn x).hostOut = s.hostOut := rfl
@[simp] theorem State.setResetn_shelfOut (s : State) (x : Bool) : (s.setResetn x).shelfOut = s.shelfOut := rfl
@[simp] theorem State.setResetn_responses (s : State) (x : Bool) : (s.setResetn x).responses = s.responses := rfl
@[simp] theorem State.setResetn_freeCount (s : State) (x : Bool) : (s.setResetn x).freeCount = s.freeCount := rfl

@[simp] theorem State.setFreeCount_pending (s : State) (x : Nat) : (s.setFreeCount x).pending = s.pending := rfl
@[simp] theorem State.setFreeCount_resetn (s : State) (x : Nat) : (s.setFreeCount x).resetn = s.resetn := rfl
@[simp] theorem State.setFreeCount_lmu (s : State) (x : Nat) : (s.setFreeCount x).lmu = s.lmu := rfl
@[simp] theorem State.setFreeCount_hli (s : State) (x : Nat) : (s.setFreeCount x).hli = s.hli := rfl
@[simp] theorem State.setFreeCount_cau (s : State) (x : Nat) : (s.setFreeCount x).cau = s.cau := rfl
@[simp] theorem State.setFreeCount_fre (s : State) (x : Nat) : (s.setFreeCount x).fre = s.fre := rfl
@[simp] theorem State.setFreeCount_mgc (s : State) (x : Nat) : (s.setFreeCount x).mgc = s.mgc := rfl
@[simp] theorem State.setFreeCount_cpm (s : State) (x : Nat) : (s.setFreeCount x).cpm = s.cpm := rfl
@[simp] theorem State.setFreeCount_acg (s : State) (x : Nat) : (s.setFreeCount x).acg = s.acg := rfl
@[simp] theorem State.setFreeCount_dvq (s : State) (x : Nat) : (s.setFreeCount x).dvq = s.dvq := rfl
@[simp] theorem State.setFreeCount_spc (s : State) (x : Nat) : (s.setFreeCount x).spc = s.spc := rfl
@[simp] theorem State.setFreeCount_msb (s : State) (x : Nat) : (s.setFreeCount x).msb = s.msb := rfl
@[simp] theorem State.setFreeCount_fnu (s : State) (x : Nat) : (s.setFreeCount x).fnu = s.fnu := rfl
@[simp] theorem State.setFreeCount_mgu (s : State) (x : Nat) : (s.setFreeCount x).mgu = s.mgu := rfl
@[simp] theorem State.setFreeCount_hostOut (s : State) (x : Nat) : (s.setFreeCount x).hostOut = s.hostOut := rfl
@[simp] theorem State.setFreeCount_shelfOut (s : State) (x : Nat) : (s.setFreeCount x).shelfOut = s.shelfOut := rfl
@[simp] theorem State.setFreeCount_responses (s : State) (x : Nat) : (s.setFreeCount x).responses = s.responses := rfl
@[simp] theorem State.setFreeCount_freeCount (s : State) (x : Nat) : (s.setFreeCount x).freeCount = x := rfl

@[simp] theorem State.sendHost_pending (s : State) (p : HostPort) (r : StatusRecord) : (s.sendHost p r).pending = s.pending := rfl
@[simp] theorem State.sendHost_resetn (s : State) (p : HostPort) (r : StatusRecord) : (s.sendHost p r).resetn = s.resetn := rfl
@[simp] theorem State.sendHost_lmu (s : State) (p : HostPort) (r : StatusRecord) : (s.sendHost p r).lmu = s.lmu := rfl
@[simp] theorem State.sendHost_hli (s : State) (p : HostPort) (r : StatusRecord) : (s.sendHost p r).hli = s.hli := rfl
@[simp] theorem State.sendHost_cau (s : State) (p : HostPort) (r : StatusRecord) : (s.sendHost p r).cau = s.cau := rfl
@[simp] theorem State.sendHost_fre (s : State) (p : HostPort) (r : StatusRecord) : (s.sendHost p r).fre = s.fre := rfl
@[simp] theorem State.sendHost_mgc (s : State) (p : HostPort) (r : StatusRecord) : (s.sendHost p r).mgc = s.mgc := rfl
@[simp] theorem State.sendHost_cpm (s : State) (p : HostPort) (r : StatusRecord) : (s.sendHost p r).cpm = s.cpm := rfl
@[simp] theorem State.sendHost_acg (s : State) (p : HostPort) (r : StatusRecord) : (s.sendHost p r).acg = s.acg := rfl
@[simp] theorem State.sendHost_dvq (s : State) (p : HostPort) (r : StatusRecord) : (s.sendHost p r).dvq = s.dvq := rfl
@[simp] theorem State.sendHost_spc (s : State) (p : HostPort) (r : StatusRecord) : (s.sendHost p r).spc = s.spc := rfl
@[simp] theorem State.sendHost_msb (s : State) (p : HostPort) (r : StatusRecord) : (s.sendHost p r).msb = s.msb := rfl
@[simp] theorem State.sendHost_fnu (s : State) (p : HostPort) (r : StatusRecord) : (s.sendHost p r).fnu = s.fnu := rfl
@[simp] theorem State.sendHost_mgu (s : State) (p : HostPort) (r : StatusRecord) : (s.sendHost p r).mgu = s.mgu := rfl
@[simp] theorem State.sendHost_hostOut (s : State) (p : HostPort) (r : StatusRecord) : (s.sendHost p r).hostOut = s.hostOut ++ [(p, r)] := rfl
@[simp] theorem State.sendHost_shelfOut (s : State) (p : HostPort) (r : StatusRecord) : (s.sendHost p r).shelfOut = s.shelfOut := rfl
@[simp] theorem State.sendHost_responses (s : State) (p : HostPort) (r : StatusRecord) : (s.sendHost p r).responses = s.responses := rfl
@[simp] theorem State.sendHost_freeCount (s : State) (p : HostPort) (r : StatusRecord) : (s.sendHost p r).freeCount = s.freeCount := rfl

@[simp] theorem State.sendShelf_pending (s : State) (p : Nat) (r : ShelfRecord) : (s.sendShelf p r).pending = s.pending := rfl
@[simp] theorem State.sendShelf_resetn (s : State) (p : Nat) (r : ShelfRecord) : (s.sendShelf p r).resetn = s.resetn := rfl
@[simp] theorem State.sendShelf_lmu (s : State) (p : Nat) (r : ShelfRecord) : (s.sendShelf p r).lmu = s.lmu := rfl
@[simp] theorem State.sendShelf_hli (s : State) (p : Nat) (r : ShelfRecord) : (s.sendShelf p r).hli = s.hli := rfl
@[simp] theorem State.sendShelf_cau (s : State) (p : Nat) (r : ShelfRecord) : (s.sendShelf p r).cau = s.cau := rfl
@[simp] theorem State.sendShelf_fre (s : State) (p : Nat) (r : ShelfRecord) : (s.sendShelf p r).fre = s.fre := rfl
@[simp] theorem State.sendShelf_mgc (s : State) (p : Nat) (r : ShelfRecord) : (s.sendShelf p r).mgc = s.mgc := rfl
@[simp] theorem State.sendShelf_cpm (s : State) (p : Nat) (r : ShelfRecord) : (s.sendShelf p r).cpm = s.cpm := rfl
@[simp] theorem State.sendShelf_acg (s : State) (p : Nat) (r : ShelfRecord) : (s.sendShelf p r).acg = s.acg := rfl
@[simp] theorem State.sendShelf_dvq (s : State) (p : Nat) (r : ShelfRecord) : (s.sendShelf p r).dvq = s.dvq := rfl
@[simp] theorem State.sendShelf_spc (s : State) (p : Nat) (r : ShelfRecord) : (s.sendShelf p r).spc = s.spc := rfl
@[simp] theorem State.sendShelf_msb (s : State) (p : Nat) (r : ShelfRecord) : (s.sendShelf p r).msb = s.msb := rfl
@[simp] theorem State.sendShelf_fnu (s : State) (p : Nat) (r : ShelfRecord) : (s.sendShelf p r).fnu = s.fnu := rfl
@[simp] theorem State.sendShelf_mgu (s : State) (p : Nat) (r : ShelfRecord) : (s.sendShelf p r).mgu = s.mgu := rfl
@[simp] theorem State.sendShelf_hostOut (s : State) (p : Nat) (r : ShelfRecord) : (s.sendShelf p r).hostOut = s.hostOut := rfl
@[simp] theorem State.sendShelf_shelfOut (s : State) (p : Nat) (r : ShelfRecord) : (s.sendShelf p r).shelfOut = s.shelfOut ++ [(p, r)] := rfl
@[simp] theorem State.sendShelf_responses (s : State) (p : Nat) (r : ShelfRecord) : (s.sendShelf p r).responses = s.responses := rfl
@[simp] theorem State.sendShelf_freeCount (s : State) (p : Nat) (r : ShelfRecord) : (s.sendShelf p r).freeCount = s.freeCount := rfl

@[simp] theorem State.sendResponse_pending (s : State) (r : Response) : (s.sendResponse r).pending = s.pending := rfl
@[simp] theorem State.sendResponse_resetn (s : State) (r : Response) : (s.sendResponse r).resetn = s.resetn := rfl
@[simp] theorem State.sendResponse_lmu (s : State) (r : Response) : (s.sendResponse r).lmu = s.lmu := rfl
@[simp] theorem State.sendResponse_hli (s : State) (r : Response) : (s.sendResponse r).hli = s.hli := rfl
@[simp] theorem State.sendResponse_cau (s : State) (r : Response) : (s.sendResponse r).cau = s.cau := rfl
@[simp] theorem State.sendResponse_fre (s : State) (r : Response) : (s.sendResponse r).fre = s.fre := rfl
@[simp] theorem State.sendResponse_mgc (s : State) (r : Response) : (s.sendResponse r).mgc = s.mgc := rfl
@[simp] theorem State.sendResponse_cpm (s : State) (r : Response) : (s.sendResponse r).cpm = s.cpm := rfl
@[simp] theorem State.sendResponse_acg (s : State) (r : Response) : (s.sendResponse r).acg = s.acg := rfl
@[simp] theorem State.sendResponse_dvq (s : State) (r : Response) : (s.sendResponse r).dvq = s.dvq := rfl
@[simp] theorem State.sendResponse_spc (s : State) (r : Response) : (s.sendResponse r).spc = s.spc := rfl
@[simp] theorem State.sendResponse_msb (s : State) (r : Response) : (s.sendResponse r).msb = s.msb := rfl
@[simp] theorem State.sendResponse_fnu (s : State) (r : Response) : (s.sendResponse r).fnu = s.fnu := rfl
@[simp] theorem State.sendResponse_mgu (s : State) (r : Response) : (s.sendResponse r).mgu = s.mgu := rfl
@[simp] theorem State.sendResponse_hostOut (s : State) (r : Response) : (s.sendResponse r).hostOut = s.hostOut := rfl
@[simp] theorem State.sendResponse_shelfOut (s : State) (r : Response) : (s.sendResponse r).shelfOut = s.shelfOut := rfl
@[simp] theorem State.sendResponse_responses (s : State) (r : Response) : (s.sendResponse r).responses = s.responses ++ [r] := rfl
@[simp] theorem State.sendResponse_freeCount (s : State) (r : Response) : (s.sendResponse r).freeCount = s.freeCount := rfl

end Sys2Proof.Machine
end

