-- ==== Sys2Proof/Laws/Tables.lean ====
section
/-! SUPPORT. The laws of tables by number: what is found after an insertion or a removal, and the canonical form kept. -/

namespace Sys2Proof.Machine

variable {α : Type}

theorem Tbl.find_ins_self (t : Tbl α) (k : Nat) (v : α) : Tbl.find (Tbl.ins t k v) k = some v := by
  induction t with
  | nil => simp [Tbl.ins, Tbl.find]
  | cons p t ih =>
    obtain ⟨i, x⟩ := p
    simp only [Tbl.ins]
    split
    · simp [Tbl.find]
    · split
      · simp [Tbl.find]
      · next h => simp only [Tbl.find, Ne.symm h, if_false]; exact ih

theorem Tbl.find_ins_ne (t : Tbl α) {k j : Nat} (v : α) (h : j ≠ k) : Tbl.find (Tbl.ins t k v) j = Tbl.find t j := by
  induction t with
  | nil => simp [Tbl.ins, Tbl.find, Ne.symm h]
  | cons p t ih =>
    obtain ⟨i, x⟩ := p
    simp only [Tbl.ins]
    split
    · simp [Tbl.find, Ne.symm h]
    · split
      · next e => subst e; simp [Tbl.find, Ne.symm h]
      · simp only [Tbl.find, ih]

/-- What an insertion leaves to be found. -/
theorem Tbl.find_ins (t : Tbl α) (k j : Nat) (v : α) : Tbl.find (Tbl.ins t k v) j = if j = k then some v else Tbl.find t j := by
  split
  · next h => subst h; exact Tbl.find_ins_self t j v
  · next h => exact Tbl.find_ins_ne t v h

/-- What a removal leaves to be found. -/
theorem Tbl.find_del (t : Tbl α) (k j : Nat) : Tbl.find (Tbl.del t k) j = if j = k then none else Tbl.find t j := by
  induction t with
  | nil => simp [Tbl.del, Tbl.find]
  | cons p t ih =>
    obtain ⟨i, x⟩ := p
    simp only [Tbl.del, List.filter_cons] at ih ⊢
    by_cases hi : i = k
    · subst hi
      simp only [bne_self_eq_false, Bool.false_eq_true, if_false, ih, Tbl.find]
      split
      · rfl
      · next h => simp [Ne.symm h]
    · simp only [bne_iff_ne, ne_eq, hi, not_false_eq_true, if_true, Tbl.find, ih]
      split
      · next h => subst h; simp [hi]
      · rfl

/-- What a store in a table with a default leaves to be read. -/
theorem Tbl.getD_put [DecidableEq α] (d : α) (t : Tbl α) (k j : Nat) (v : α) :
    Tbl.getD (Tbl.put d t k v) j d = if j = k then v else Tbl.getD t j d := by
  unfold Tbl.put Tbl.getD
  split
  · next h => subst h; rw [Tbl.find_del]; split <;> simp
  · rw [Tbl.find_ins]; split <;> simp

theorem Tbl.getD_ins (d : α) (t : Tbl α) (k j : Nat) (v : α) :
    Tbl.getD (Tbl.ins t k v) j d = if j = k then v else Tbl.getD t j d := by
  unfold Tbl.getD; rw [Tbl.find_ins]; split <;> simp

/-- What is found after every value is changed. -/
theorem Tbl.find_mapVal (t : Tbl α) (f : α → α) (k : Nat) : Tbl.find (Tbl.mapVal t f) k = (Tbl.find t k).map f := by
  induction t with
  | nil => rfl
  | cons p t ih =>
    obtain ⟨i, x⟩ := p
    simp only [Tbl.mapVal, List.map_cons, Tbl.find] at ih ⊢
    split
    · rfl
    · exact ih

/-- The pairs of a table after an insertion: the new one, or an old one. -/
theorem Tbl.mem_ins {t : Tbl α} {k : Nat} {v : α} {q : Nat × α} (h : q ∈ Tbl.ins t k v) : q = (k, v) ∨ q ∈ t := by
  induction t with
  | nil => simp [Tbl.ins] at h; exact .inl h
  | cons p t ih =>
    obtain ⟨i, x⟩ := p
    simp only [Tbl.ins] at h
    split at h
    · simpa using h
    · split at h
      · simp only [List.mem_cons] at h ⊢
        rcases h with h | h
        · exact .inl h
        · exact .inr (.inr h)
      · simp only [List.mem_cons] at h ⊢
        rcases h with h | h
        · exact .inr (.inl h)
        · rcases ih h with h | h
          · exact .inl h
          · exact .inr (.inr h)

/-- The numbers still rise after an insertion. -/
theorem Tbl.wf_ins {t : Tbl α} (h : Tbl.wf t) (k : Nat) (v : α) : Tbl.wf (Tbl.ins t k v) := by
  induction t with
  | nil => simp [Tbl.ins, Tbl.wf]
  | cons p t ih =>
    obtain ⟨i, x⟩ := p
    obtain ⟨h1, h2⟩ := List.pairwise_cons.mp h
    simp only [Tbl.ins]
    split
    · next hk =>
      refine List.pairwise_cons.mpr ⟨fun q hq => ?_, h⟩
      rcases List.mem_cons.mp hq with rfl | hq
      · exact hk
      · exact Nat.lt_trans hk (h1 q hq)
    · split
      · next hk hk2 =>
        subst hk2
        exact List.pairwise_cons.mpr ⟨h1, h2⟩
      · next hk hk2 =>
        refine List.pairwise_cons.mpr ⟨fun q hq => ?_, ih h2⟩
        rcases Tbl.mem_ins hq with rfl | hq
        · show i < k; omega
        · exact h1 q hq

/-- The numbers still rise after a removal. -/
theorem Tbl.wf_del {t : Tbl α} (h : Tbl.wf t) (k : Nat) : Tbl.wf (Tbl.del t k) := List.Pairwise.filter _ h

theorem Tbl.wf_mapVal {t : Tbl α} (h : Tbl.wf t) (f : α → α) : Tbl.wf (Tbl.mapVal t f) := by
  unfold Tbl.wf Tbl.mapVal; rw [List.pairwise_map]; exact h

/-- A store keeps the canonical form. -/
theorem Tbl.canonical_put [DecidableEq α] {d : α} {t : Tbl α} (h : Tbl.canonical d t) (k : Nat) (v : α) :
    Tbl.canonical d (Tbl.put d t k v) := by
  unfold Tbl.put
  split
  · exact ⟨Tbl.wf_del h.1 k, fun q hq => h.2 q (List.mem_filter.mp hq).1⟩
  · next hv =>
    refine ⟨Tbl.wf_ins h.1 k v, fun q hq => ?_⟩
    rcases Tbl.mem_ins hq with rfl | hq
    · exact hv
    · exact h.2 q hq

/-- The number found free is free, and among the `n` from `k` up. -/
theorem Tbl.lowestFree_some {t : Tbl α} {n k m : Nat} (h : Tbl.lowestFree t n k = some m) :
    Tbl.find t m = none ∧ k ≤ m ∧ m < k + n := by
  induction n generalizing k with
  | zero => simp [Tbl.lowestFree] at h
  | succ n ih =>
    simp only [Tbl.lowestFree] at h
    split at h
    · next hk => cases h; exact ⟨by simpa using hk, Nat.le_refl _, by omega⟩
    · obtain ⟨a, b, c⟩ := ih h; exact ⟨a, by omega, by omega⟩

/-- Every lower number is taken. -/
theorem Tbl.lowestFree_least {t : Tbl α} {n k m : Nat} (h : Tbl.lowestFree t n k = some m) (j : Nat) (hj : k ≤ j) (hm : j < m) :
    Tbl.find t j ≠ none := by
  induction n generalizing k with
  | zero => simp [Tbl.lowestFree] at h
  | succ n ih =>
    simp only [Tbl.lowestFree] at h
    split at h
    · cases h; omega
    · next hk =>
      by_cases e : j = k
      · subst e; simpa using hk
      · exact ih h (by omega)

end Sys2Proof.Machine
end

