-- ==== Sys2Proof/Laws/Frames.lean ====
section
/-! SUPPORT. For each shared operation one lemma that says which fields of the state it leaves as they were; tagged @[simp], so that a
frame of a command follows from the frames of what it calls. -/

namespace Sys2Proof.Machine

variable {β : Type}

@[simp] theorem foldl_pending (g : State → β → State) (l : List β) (s : State) (h : ∀ t x, (g t x).pending = t.pending) :
    (l.foldl g s).pending = s.pending := by
  induction l generalizing s with
  | nil => rfl
  | cons x l ih => rw [List.foldl_cons, ih, h]

@[simp] theorem foldl_resetn (g : State → β → State) (l : List β) (s : State) (h : ∀ t x, (g t x).resetn = t.resetn) :
    (l.foldl g s).resetn = s.resetn := by
  induction l generalizing s with
  | nil => rfl
  | cons x l ih => rw [List.foldl_cons, ih, h]

@[simp] theorem foldl_lmu (g : State → β → State) (l : List β) (s : State) (h : ∀ t x, (g t x).lmu = t.lmu) :
    (l.foldl g s).lmu = s.lmu := by
  induction l generalizing s with
  | nil => rfl
  | cons x l ih => rw [List.foldl_cons, ih, h]

@[simp] theorem foldl_hli (g : State → β → State) (l : List β) (s : State) (h : ∀ t x, (g t x).hli = t.hli) :
    (l.foldl g s).hli = s.hli := by
  induction l generalizing s with
  | nil => rfl
  | cons x l ih => rw [List.foldl_cons, ih, h]

@[simp] theorem foldl_cau (g : State → β → State) (l : List β) (s : State) (h : ∀ t x, (g t x).cau = t.cau) :
    (l.foldl g s).cau = s.cau := by
  induction l generalizing s with
  | nil => rfl
  | cons x l ih => rw [List.foldl_cons, ih, h]

@[simp] theorem foldl_fre (g : State → β → State) (l : List β) (s : State) (h : ∀ t x, (g t x).fre = t.fre) :
    (l.foldl g s).fre = s.fre := by
  induction l generalizing s with
  | nil => rfl
  | cons x l ih => rw [List.foldl_cons, ih, h]

@[simp] theorem foldl_mgc (g : State → β → State) (l : List β) (s : State) (h : ∀ t x, (g t x).mgc = t.mgc) :
    (l.foldl g s).mgc = s.mgc := by
  induction l generalizing s with
  | nil => rfl
  | cons x l ih => rw [List.foldl_cons, ih, h]

@[simp] theorem foldl_cpm (g : State → β → State) (l : List β) (s : State) (h : ∀ t x, (g t x).cpm = t.cpm) :
    (l.foldl g s).cpm = s.cpm := by
  induction l generalizing s with
  | nil => rfl
  | cons x l ih => rw [List.foldl_cons, ih, h]

@[simp] theorem foldl_acg (g : State → β → State) (l : List β) (s : State) (h : ∀ t x, (g t x).acg = t.acg) :
    (l.foldl g s).acg = s.acg := by
  induction l generalizing s with
  | nil => rfl
  | cons x l ih => rw [List.foldl_cons, ih, h]

@[simp] theorem foldl_dvq (g : State → β → State) (l : List β) (s : State) (h : ∀ t x, (g t x).dvq = t.dvq) :
    (l.foldl g s).dvq = s.dvq := by
  induction l generalizing s with
  | nil => rfl
  | cons x l ih => rw [List.foldl_cons, ih, h]

@[simp] theorem foldl_spc (g : State → β → State) (l : List β) (s : State) (h : ∀ t x, (g t x).spc = t.spc) :
    (l.foldl g s).spc = s.spc := by
  induction l generalizing s with
  | nil => rfl
  | cons x l ih => rw [List.foldl_cons, ih, h]

@[simp] theorem foldl_msb (g : State → β → State) (l : List β) (s : State) (h : ∀ t x, (g t x).msb = t.msb) :
    (l.foldl g s).msb = s.msb := by
  induction l generalizing s with
  | nil => rfl
  | cons x l ih => rw [List.foldl_cons, ih, h]

@[simp] theorem foldl_fnu (g : State → β → State) (l : List β) (s : State) (h : ∀ t x, (g t x).fnu = t.fnu) :
    (l.foldl g s).fnu = s.fnu := by
  induction l generalizing s with
  | nil => rfl
  | cons x l ih => rw [List.foldl_cons, ih, h]

@[simp] theorem foldl_mgu (g : State → β → State) (l : List β) (s : State) (h : ∀ t x, (g t x).mgu = t.mgu) :
    (l.foldl g s).mgu = s.mgu := by
  induction l generalizing s with
  | nil => rfl
  | cons x l ih => rw [List.foldl_cons, ih, h]

@[simp] theorem foldl_hostOut (g : State → β → State) (l : List β) (s : State) (h : ∀ t x, (g t x).hostOut = t.hostOut) :
    (l.foldl g s).hostOut = s.hostOut := by
  induction l generalizing s with
  | nil => rfl
  | cons x l ih => rw [List.foldl_cons, ih, h]

@[simp] theorem foldl_shelfOut (g : State → β → State) (l : List β) (s : State) (h : ∀ t x, (g t x).shelfOut = t.shelfOut) :
    (l.foldl g s).shelfOut = s.shelfOut := by
  induction l generalizing s with
  | nil => rfl
  | cons x l ih => rw [List.foldl_cons, ih, h]

@[simp] theorem foldl_responses (g : State → β → State) (l : List β) (s : State) (h : ∀ t x, (g t x).responses = t.responses) :
    (l.foldl g s).responses = s.responses := by
  induction l generalizing s with
  | nil => rfl
  | cons x l ih => rw [List.foldl_cons, ih, h]

@[simp] theorem foldl_freeCount (g : State → β → State) (l : List β) (s : State) (h : ∀ t x, (g t x).freeCount = t.freeCount) :
    (l.foldl g s).freeCount = s.freeCount := by
  induction l generalizing s with
  | nil => rfl
  | cons x l ih => rw [List.foldl_cons, ih, h]

/-- What `setVolume` leaves unchanged. -/
@[simp] theorem State.setVolume_keeps (s : State) (v : Nat) (x : Volume) :
    (s.setVolume v x).pending = s.pending ∧ (s.setVolume v x).resetn = s.resetn ∧ (s.setVolume v x).hli = s.hli ∧ (s.setVolume v x).cau = s.cau ∧ (s.setVolume v x).fre = s.fre ∧ (s.setVolume v x).mgc = s.mgc ∧ (s.setVolume v x).cpm = s.cpm ∧ (s.setVolume v x).acg = s.acg ∧ (s.setVolume v x).dvq = s.dvq ∧ (s.setVolume v x).spc = s.spc ∧ (s.setVolume v x).msb = s.msb ∧ (s.setVolume v x).fnu = s.fnu ∧ (s.setVolume v x).mgu = s.mgu ∧ (s.setVolume v x).hostOut = s.hostOut ∧ (s.setVolume v x).shelfOut = s.shelfOut ∧ (s.setVolume v x).responses = s.responses ∧ (s.setVolume v x).freeCount = s.freeCount := by
  simp only [State.setVolume]
  simp

/-- What `setGroup` leaves unchanged. -/
@[simp] theorem State.setGroup_keeps (s : State) (g : Nat) (x : Group) :
    (s.setGroup g x).pending = s.pending ∧ (s.setGroup g x).resetn = s.resetn ∧ (s.setGroup g x).hli = s.hli ∧ (s.setGroup g x).cau = s.cau ∧ (s.setGroup g x).fre = s.fre ∧ (s.setGroup g x).mgc = s.mgc ∧ (s.setGroup g x).cpm = s.cpm ∧ (s.setGroup g x).acg = s.acg ∧ (s.setGroup g x).dvq = s.dvq ∧ (s.setGroup g x).spc = s.spc ∧ (s.setGroup g x).msb = s.msb ∧ (s.setGroup g x).fnu = s.fnu ∧ (s.setGroup g x).mgu = s.mgu ∧ (s.setGroup g x).hostOut = s.hostOut ∧ (s.setGroup g x).shelfOut = s.shelfOut ∧ (s.setGroup g x).responses = s.responses ∧ (s.setGroup g x).freeCount = s.freeCount := by
  simp only [State.setGroup]
  simp

/-- What `hold` leaves unchanged. -/
@[simp] theorem State.hold_keeps (s : State) (l : Loc) (h : Holder) :
    (s.hold l h).pending = s.pending ∧ (s.hold l h).resetn = s.resetn ∧ (s.hold l h).hli = s.hli ∧ (s.hold l h).cau = s.cau ∧ (s.hold l h).fre = s.fre ∧ (s.hold l h).mgc = s.mgc ∧ (s.hold l h).cpm = s.cpm ∧ (s.hold l h).acg = s.acg ∧ (s.hold l h).dvq = s.dvq ∧ (s.hold l h).spc = s.spc ∧ (s.hold l h).msb = s.msb ∧ (s.hold l h).fnu = s.fnu ∧ (s.hold l h).mgu = s.mgu ∧ (s.hold l h).hostOut = s.hostOut ∧ (s.hold l h).shelfOut = s.shelfOut ∧ (s.hold l h).responses = s.responses ∧ (s.hold l h).freeCount = s.freeCount := by
  simp only [State.hold]
  simp

/-- What `release` leaves unchanged. -/
@[simp] theorem State.release_keeps (s : State) (l : Loc) (h : Holder) :
    (s.release l h).pending = s.pending ∧ (s.release l h).resetn = s.resetn ∧ (s.release l h).hli = s.hli ∧ (s.release l h).cau = s.cau ∧ (s.release l h).fre = s.fre ∧ (s.release l h).mgc = s.mgc ∧ (s.release l h).cpm = s.cpm ∧ (s.release l h).acg = s.acg ∧ (s.release l h).dvq = s.dvq ∧ (s.release l h).spc = s.spc ∧ (s.release l h).msb = s.msb ∧ (s.release l h).fnu = s.fnu ∧ (s.release l h).mgu = s.mgu ∧ (s.release l h).hostOut = s.hostOut ∧ (s.release l h).shelfOut = s.shelfOut ∧ (s.release l h).responses = s.responses ∧ (s.release l h).freeCount = s.freeCount := by
  simp only [State.release]
  (repeat' split) <;> simp

/-- What `setQueue` leaves unchanged. -/
@[simp] theorem State.setQueue_keeps (s : State) (p : HostPort) (q : List CommandRecord) :
    (s.setQueue p q).pending = s.pending ∧ (s.setQueue p q).resetn = s.resetn ∧ (s.setQueue p q).lmu = s.lmu ∧ (s.setQueue p q).cau = s.cau ∧ (s.setQueue p q).fre = s.fre ∧ (s.setQueue p q).mgc = s.mgc ∧ (s.setQueue p q).cpm = s.cpm ∧ (s.setQueue p q).acg = s.acg ∧ (s.setQueue p q).dvq = s.dvq ∧ (s.setQueue p q).spc = s.spc ∧ (s.setQueue p q).msb = s.msb ∧ (s.setQueue p q).fnu = s.fnu ∧ (s.setQueue p q).mgu = s.mgu ∧ (s.setQueue p q).hostOut = s.hostOut ∧ (s.setQueue p q).shelfOut = s.shelfOut ∧ (s.setQueue p q).responses = s.responses ∧ (s.setQueue p q).freeCount = s.freeCount := by
  simp only [State.setQueue]
  (repeat' split) <;> simp

/-- What `setCommand` leaves unchanged. -/
@[simp] theorem State.setCommand_keeps (s : State) (e : Nat) (c : Command) :
    (s.setCommand e c).pending = s.pending ∧ (s.setCommand e c).resetn = s.resetn ∧ (s.setCommand e c).lmu = s.lmu ∧ (s.setCommand e c).hli = s.hli ∧ (s.setCommand e c).cau = s.cau ∧ (s.setCommand e c).mgc = s.mgc ∧ (s.setCommand e c).cpm = s.cpm ∧ (s.setCommand e c).acg = s.acg ∧ (s.setCommand e c).dvq = s.dvq ∧ (s.setCommand e c).spc = s.spc ∧ (s.setCommand e c).msb = s.msb ∧ (s.setCommand e c).fnu = s.fnu ∧ (s.setCommand e c).mgu = s.mgu ∧ (s.setCommand e c).hostOut = s.hostOut ∧ (s.setCommand e c).shelfOut = s.shelfOut ∧ (s.setCommand e c).responses = s.responses ∧ (s.setCommand e c).freeCount = s.freeCount := by
  simp only [State.setCommand]
  simp

/-- What `dropCommand` leaves unchanged. -/
@[simp] theorem State.dropCommand_keeps (s : State) (e : Nat) :
    (s.dropCommand e).pending = s.pending ∧ (s.dropCommand e).resetn = s.resetn ∧ (s.dropCommand e).lmu = s.lmu ∧ (s.dropCommand e).hli = s.hli ∧ (s.dropCommand e).cau = s.cau ∧ (s.dropCommand e).mgc = s.mgc ∧ (s.dropCommand e).cpm = s.cpm ∧ (s.dropCommand e).acg = s.acg ∧ (s.dropCommand e).dvq = s.dvq ∧ (s.dropCommand e).spc = s.spc ∧ (s.dropCommand e).msb = s.msb ∧ (s.dropCommand e).fnu = s.fnu ∧ (s.dropCommand e).mgu = s.mgu ∧ (s.dropCommand e).hostOut = s.hostOut ∧ (s.dropCommand e).shelfOut = s.shelfOut ∧ (s.dropCommand e).responses = s.responses ∧ (s.dropCommand e).freeCount = s.freeCount := by
  simp only [State.dropCommand]
  simp

/-- What `setSlot` leaves unchanged. -/
@[simp] theorem State.setSlot_keeps (s : State) (i : Nat) (x : Slot) :
    (s.setSlot i x).pending = s.pending ∧ (s.setSlot i x).resetn = s.resetn ∧ (s.setSlot i x).lmu = s.lmu ∧ (s.setSlot i x).hli = s.hli ∧ (s.setSlot i x).cau = s.cau ∧ (s.setSlot i x).fre = s.fre ∧ (s.setSlot i x).cpm = s.cpm ∧ (s.setSlot i x).acg = s.acg ∧ (s.setSlot i x).dvq = s.dvq ∧ (s.setSlot i x).spc = s.spc ∧ (s.setSlot i x).msb = s.msb ∧ (s.setSlot i x).fnu = s.fnu ∧ (s.setSlot i x).mgu = s.mgu ∧ (s.setSlot i x).hostOut = s.hostOut ∧ (s.setSlot i x).shelfOut = s.shelfOut ∧ (s.setSlot i x).responses = s.responses ∧ (s.setSlot i x).freeCount = s.freeCount := by
  simp only [State.setSlot]
  simp

/-- What `setClaim` leaves unchanged. -/
@[simp] theorem State.setClaim_keeps (s : State) (i : Nat) (c : Claim) :
    (s.setClaim i c).pending = s.pending ∧ (s.setClaim i c).resetn = s.resetn ∧ (s.setClaim i c).lmu = s.lmu ∧ (s.setClaim i c).hli = s.hli ∧ (s.setClaim i c).cau = s.cau ∧ (s.setClaim i c).fre = s.fre ∧ (s.setClaim i c).cpm = s.cpm ∧ (s.setClaim i c).acg = s.acg ∧ (s.setClaim i c).dvq = s.dvq ∧ (s.setClaim i c).spc = s.spc ∧ (s.setClaim i c).msb = s.msb ∧ (s.setClaim i c).fnu = s.fnu ∧ (s.setClaim i c).mgu = s.mgu ∧ (s.setClaim i c).hostOut = s.hostOut ∧ (s.setClaim i c).shelfOut = s.shelfOut ∧ (s.setClaim i c).responses = s.responses ∧ (s.setClaim i c).freeCount = s.freeCount := by
  simp only [State.setClaim]
  simp

/-- What `setLane` leaves unchanged. -/
@[simp] theorem State.setLane_keeps (s : State) (l : Nat) (x : Lane) :
    (s.setLane l x).pending = s.pending ∧ (s.setLane l x).resetn = s.resetn ∧ (s.setLane l x).lmu = s.lmu ∧ (s.setLane l x).hli = s.hli ∧ (s.setLane l x).cau = s.cau ∧ (s.setLane l x).fre = s.fre ∧ (s.setLane l x).mgc = s.mgc ∧ (s.setLane l x).acg = s.acg ∧ (s.setLane l x).dvq = s.dvq ∧ (s.setLane l x).spc = s.spc ∧ (s.setLane l x).msb = s.msb ∧ (s.setLane l x).fnu = s.fnu ∧ (s.setLane l x).mgu = s.mgu ∧ (s.setLane l x).hostOut = s.hostOut ∧ (s.setLane l x).shelfOut = s.shelfOut ∧ (s.setLane l x).responses = s.responses ∧ (s.setLane l x).freeCount = s.freeCount := by
  simp only [State.setLane]
  simp

/-- What `setPort` leaves unchanged. -/
@[simp] theorem State.setPort_keeps (s : State) (p : Nat) (x : Port) :
    (s.setPort p x).pending = s.pending ∧ (s.setPort p x).resetn = s.resetn ∧ (s.setPort p x).lmu = s.lmu ∧ (s.setPort p x).hli = s.hli ∧ (s.setPort p x).cau = s.cau ∧ (s.setPort p x).fre = s.fre ∧ (s.setPort p x).mgc = s.mgc ∧ (s.setPort p x).cpm = s.cpm ∧ (s.setPort p x).acg = s.acg ∧ (s.setPort p x).dvq = s.dvq ∧ (s.setPort p x).msb = s.msb ∧ (s.setPort p x).fnu = s.fnu ∧ (s.setPort p x).mgu = s.mgu ∧ (s.setPort p x).hostOut = s.hostOut ∧ (s.setPort p x).shelfOut = s.shelfOut ∧ (s.setPort p x).responses = s.responses ∧ (s.setPort p x).freeCount = s.freeCount := by
  simp only [State.setPort]
  simp

/-- What `setDrive` leaves unchanged. -/
@[simp] theorem State.setDrive_keeps (s : State) (p d : Nat) (x : Drive) :
    (s.setDrive p d x).pending = s.pending ∧ (s.setDrive p d x).resetn = s.resetn ∧ (s.setDrive p d x).lmu = s.lmu ∧ (s.setDrive p d x).hli = s.hli ∧ (s.setDrive p d x).cau = s.cau ∧ (s.setDrive p d x).fre = s.fre ∧ (s.setDrive p d x).mgc = s.mgc ∧ (s.setDrive p d x).cpm = s.cpm ∧ (s.setDrive p d x).acg = s.acg ∧ (s.setDrive p d x).dvq = s.dvq ∧ (s.setDrive p d x).msb = s.msb ∧ (s.setDrive p d x).fnu = s.fnu ∧ (s.setDrive p d x).mgu = s.mgu ∧ (s.setDrive p d x).hostOut = s.hostOut ∧ (s.setDrive p d x).shelfOut = s.shelfOut ∧ (s.setDrive p d x).responses = s.responses ∧ (s.setDrive p d x).freeCount = s.freeCount := by
  simp only [State.setDrive]
  simp

/-- What `countHost` leaves unchanged. -/
@[simp] theorem State.countHost_keeps (s : State) (p : Nat) :
    (s.countHost p).pending = s.pending ∧ (s.countHost p).resetn = s.resetn ∧ (s.countHost p).lmu = s.lmu ∧ (s.countHost p).hli = s.hli ∧ (s.countHost p).cau = s.cau ∧ (s.countHost p).fre = s.fre ∧ (s.countHost p).mgc = s.mgc ∧ (s.countHost p).cpm = s.cpm ∧ (s.countHost p).dvq = s.dvq ∧ (s.countHost p).spc = s.spc ∧ (s.countHost p).msb = s.msb ∧ (s.countHost p).fnu = s.fnu ∧ (s.countHost p).mgu = s.mgu ∧ (s.countHost p).hostOut = s.hostOut ∧ (s.countHost p).shelfOut = s.shelfOut ∧ (s.countHost p).responses = s.responses ∧ (s.countHost p).freeCount = s.freeCount := by
  simp only [State.countHost]
  simp

/-- What `countCopy` leaves unchanged. -/
@[simp] theorem State.countCopy_keeps (s : State) (p : Nat) :
    (s.countCopy p).pending = s.pending ∧ (s.countCopy p).resetn = s.resetn ∧ (s.countCopy p).lmu = s.lmu ∧ (s.countCopy p).hli = s.hli ∧ (s.countCopy p).cau = s.cau ∧ (s.countCopy p).fre = s.fre ∧ (s.countCopy p).mgc = s.mgc ∧ (s.countCopy p).cpm = s.cpm ∧ (s.countCopy p).dvq = s.dvq ∧ (s.countCopy p).spc = s.spc ∧ (s.countCopy p).msb = s.msb ∧ (s.countCopy p).fnu = s.fnu ∧ (s.countCopy p).mgu = s.mgu ∧ (s.countCopy p).hostOut = s.hostOut ∧ (s.countCopy p).shelfOut = s.shelfOut ∧ (s.countCopy p).responses = s.responses ∧ (s.countCopy p).freeCount = s.freeCount := by
  simp only [State.countCopy]
  simp

/-- What `answerWith` leaves unchanged. -/
@[simp] theorem State.answerWith_keeps (s : State) (e : Nat) (r : StatusRecord) :
    (s.answerWith e r).pending = s.pending ∧ (s.answerWith e r).resetn = s.resetn ∧ (s.answerWith e r).lmu = s.lmu ∧ (s.answerWith e r).hli = s.hli ∧ (s.answerWith e r).cau = s.cau ∧ (s.answerWith e r).mgc = s.mgc ∧ (s.answerWith e r).cpm = s.cpm ∧ (s.answerWith e r).acg = s.acg ∧ (s.answerWith e r).dvq = s.dvq ∧ (s.answerWith e r).spc = s.spc ∧ (s.answerWith e r).msb = s.msb ∧ (s.answerWith e r).fnu = s.fnu ∧ (s.answerWith e r).mgu = s.mgu ∧ (s.answerWith e r).shelfOut = s.shelfOut ∧ (s.answerWith e r).responses = s.responses ∧ (s.answerWith e r).freeCount = s.freeCount := by
  simp only [State.answerWith]
  (repeat' split) <;> simp

/-- What `answer` leaves unchanged. -/
@[simp] theorem State.answer_keeps (s : State) (e : Nat) (st : HostStatus) :
    (s.answer e st).pending = s.pending ∧ (s.answer e st).resetn = s.resetn ∧ (s.answer e st).lmu = s.lmu ∧ (s.answer e st).hli = s.hli ∧ (s.answer e st).cau = s.cau ∧ (s.answer e st).mgc = s.mgc ∧ (s.answer e st).cpm = s.cpm ∧ (s.answer e st).acg = s.acg ∧ (s.answer e st).dvq = s.dvq ∧ (s.answer e st).spc = s.spc ∧ (s.answer e st).msb = s.msb ∧ (s.answer e st).fnu = s.fnu ∧ (s.answer e st).mgu = s.mgu ∧ (s.answer e st).shelfOut = s.shelfOut ∧ (s.answer e st).responses = s.responses ∧ (s.answer e st).freeCount = s.freeCount := by
  simp only [State.answer]
  simp

/-- What `setSect` leaves unchanged. -/
@[simp] theorem State.setSect_keeps (s : State) (k : Nat) (x : Section) :
    (s.setSect k x).pending = s.pending ∧ (s.setSect k x).resetn = s.resetn ∧ (s.setSect k x).lmu = s.lmu ∧ (s.setSect k x).hli = s.hli ∧ (s.setSect k x).cau = s.cau ∧ (s.setSect k x).fre = s.fre ∧ (s.setSect k x).mgc = s.mgc ∧ (s.setSect k x).cpm = s.cpm ∧ (s.setSect k x).acg = s.acg ∧ (s.setSect k x).dvq = s.dvq ∧ (s.setSect k x).spc = s.spc ∧ (s.setSect k x).fnu = s.fnu ∧ (s.setSect k x).mgu = s.mgu ∧ (s.setSect k x).hostOut = s.hostOut ∧ (s.setSect k x).shelfOut = s.shelfOut ∧ (s.setSect k x).responses = s.responses ∧ (s.setSect k x).freeCount = s.freeCount := by
  simp only [State.setSect]
  simp

/-- What `raise` leaves unchanged. -/
@[simp] theorem State.raise_keeps (s : State) (n : Notice) :
    (s.raise n).pending = s.pending ∧ (s.raise n).resetn = s.resetn ∧ (s.raise n).lmu = s.lmu ∧ (s.raise n).hli = s.hli ∧ (s.raise n).cau = s.cau ∧ (s.raise n).fre = s.fre ∧ (s.raise n).mgc = s.mgc ∧ (s.raise n).cpm = s.cpm ∧ (s.raise n).acg = s.acg ∧ (s.raise n).dvq = s.dvq ∧ (s.raise n).spc = s.spc ∧ (s.raise n).msb = s.msb ∧ (s.raise n).mgu = s.mgu ∧ (s.raise n).hostOut = s.hostOut ∧ (s.raise n).shelfOut = s.shelfOut ∧ (s.raise n).responses = s.responses ∧ (s.raise n).freeCount = s.freeCount := by
  simp only [State.raise]
  simp

/-- What `setCond` leaves unchanged. -/
@[simp] theorem State.setCond_keeps (s : State) (c : Cond) :
    (s.setCond c).pending = s.pending ∧ (s.setCond c).resetn = s.resetn ∧ (s.setCond c).lmu = s.lmu ∧ (s.setCond c).hli = s.hli ∧ (s.setCond c).cau = s.cau ∧ (s.setCond c).fre = s.fre ∧ (s.setCond c).mgc = s.mgc ∧ (s.setCond c).cpm = s.cpm ∧ (s.setCond c).acg = s.acg ∧ (s.setCond c).dvq = s.dvq ∧ (s.setCond c).spc = s.spc ∧ (s.setCond c).msb = s.msb ∧ (s.setCond c).mgu = s.mgu ∧ (s.setCond c).hostOut = s.hostOut ∧ (s.setCond c).shelfOut = s.shelfOut ∧ (s.setCond c).responses = s.responses ∧ (s.setCond c).freeCount = s.freeCount := by
  simp only [State.setCond]
  simp

/-- What `setPortCond` leaves unchanged. -/
@[simp] theorem State.setPortCond_keeps (s : State) (c : Fin 8 → Cond) (p : Nat) :
    (s.setPortCond c p).pending = s.pending ∧ (s.setPortCond c p).resetn = s.resetn ∧ (s.setPortCond c p).lmu = s.lmu ∧ (s.setPortCond c p).hli = s.hli ∧ (s.setPortCond c p).cau = s.cau ∧ (s.setPortCond c p).fre = s.fre ∧ (s.setPortCond c p).mgc = s.mgc ∧ (s.setPortCond c p).cpm = s.cpm ∧ (s.setPortCond c p).acg = s.acg ∧ (s.setPortCond c p).dvq = s.dvq ∧ (s.setPortCond c p).spc = s.spc ∧ (s.setPortCond c p).msb = s.msb ∧ (s.setPortCond c p).mgu = s.mgu ∧ (s.setPortCond c p).hostOut = s.hostOut ∧ (s.setPortCond c p).shelfOut = s.shelfOut ∧ (s.setPortCond c p).responses = s.responses ∧ (s.setPortCond c p).freeCount = s.freeCount := by
  simp only [State.setPortCond]
  (repeat' split) <;> simp

/-- What `setLinkResets` leaves unchanged. -/
@[simp] theorem State.setLinkResets_keeps (s : State) (p : HostPort) (n : Nat) :
    (s.setLinkResets p n).pending = s.pending ∧ (s.setLinkResets p n).resetn = s.resetn ∧ (s.setLinkResets p n).lmu = s.lmu ∧ (s.setLinkResets p n).hli = s.hli ∧ (s.setLinkResets p n).cau = s.cau ∧ (s.setLinkResets p n).fre = s.fre ∧ (s.setLinkResets p n).mgc = s.mgc ∧ (s.setLinkResets p n).cpm = s.cpm ∧ (s.setLinkResets p n).acg = s.acg ∧ (s.setLinkResets p n).dvq = s.dvq ∧ (s.setLinkResets p n).spc = s.spc ∧ (s.setLinkResets p n).msb = s.msb ∧ (s.setLinkResets p n).mgu = s.mgu ∧ (s.setLinkResets p n).hostOut = s.hostOut ∧ (s.setLinkResets p n).shelfOut = s.shelfOut ∧ (s.setLinkResets p n).responses = s.responses ∧ (s.setLinkResets p n).freeCount = s.freeCount := by
  simp only [State.setLinkResets]
  (repeat' split) <;> simp

/-- What `clearCond` leaves unchanged. -/
@[simp] theorem State.clearCond_keeps (s : State) (i : Nat) :
    (s.clearCond i).pending = s.pending ∧ (s.clearCond i).resetn = s.resetn ∧ (s.clearCond i).lmu = s.lmu ∧ (s.clearCond i).hli = s.hli ∧ (s.clearCond i).cau = s.cau ∧ (s.clearCond i).fre = s.fre ∧ (s.clearCond i).mgc = s.mgc ∧ (s.clearCond i).cpm = s.cpm ∧ (s.clearCond i).acg = s.acg ∧ (s.clearCond i).dvq = s.dvq ∧ (s.clearCond i).spc = s.spc ∧ (s.clearCond i).msb = s.msb ∧ (s.clearCond i).mgu = s.mgu ∧ (s.clearCond i).hostOut = s.hostOut ∧ (s.clearCond i).shelfOut = s.shelfOut ∧ (s.clearCond i).responses = s.responses ∧ (s.clearCond i).freeCount = s.freeCount := by
  simp only [State.clearCond]
  (repeat' split) <;> simp

/-- What `storeRec` leaves unchanged. -/
@[simp] theorem State.storeRec_keeps (s : State) (i : Nat) (r : ExtRec) :
    (s.storeRec i r).pending = s.pending ∧ (s.storeRec i r).resetn = s.resetn ∧ (s.storeRec i r).hli = s.hli ∧ (s.storeRec i r).cau = s.cau ∧ (s.storeRec i r).fre = s.fre ∧ (s.storeRec i r).mgc = s.mgc ∧ (s.storeRec i r).cpm = s.cpm ∧ (s.storeRec i r).acg = s.acg ∧ (s.storeRec i r).dvq = s.dvq ∧ (s.storeRec i r).spc = s.spc ∧ (s.storeRec i r).msb = s.msb ∧ (s.storeRec i r).fnu = s.fnu ∧ (s.storeRec i r).mgu = s.mgu ∧ (s.storeRec i r).hostOut = s.hostOut ∧ (s.storeRec i r).shelfOut = s.shelfOut ∧ (s.storeRec i r).responses = s.responses ∧ (s.storeRec i r).freeCount = s.freeCount := by
  simp only [State.storeRec]
  simp

/-- What `recheck` leaves unchanged. -/
@[simp] theorem State.recheck_keeps (s : State) (k : Nat) :
    (s.recheck k).pending = s.pending ∧ (s.recheck k).resetn = s.resetn ∧ (s.recheck k).lmu = s.lmu ∧ (s.recheck k).hli = s.hli ∧ (s.recheck k).cau = s.cau ∧ (s.recheck k).fre = s.fre ∧ (s.recheck k).mgc = s.mgc ∧ (s.recheck k).cpm = s.cpm ∧ (s.recheck k).acg = s.acg ∧ (s.recheck k).dvq = s.dvq ∧ (s.recheck k).spc = s.spc ∧ (s.recheck k).fnu = s.fnu ∧ (s.recheck k).mgu = s.mgu ∧ (s.recheck k).hostOut = s.hostOut ∧ (s.recheck k).shelfOut = s.shelfOut ∧ (s.recheck k).responses = s.responses ∧ (s.recheck k).freeCount = s.freeCount := by
  simp only [State.recheck]
  simp

/-- What `writeRec` leaves unchanged. -/
@[simp] theorem State.writeRec_keeps (s : State) (i : Nat) (r : ExtRec) :
    (s.writeRec i r).pending = s.pending ∧ (s.writeRec i r).resetn = s.resetn ∧ (s.writeRec i r).hli = s.hli ∧ (s.writeRec i r).cau = s.cau ∧ (s.writeRec i r).fre = s.fre ∧ (s.writeRec i r).mgc = s.mgc ∧ (s.writeRec i r).cpm = s.cpm ∧ (s.writeRec i r).acg = s.acg ∧ (s.writeRec i r).dvq = s.dvq ∧ (s.writeRec i r).spc = s.spc ∧ (s.writeRec i r).fnu = s.fnu ∧ (s.writeRec i r).mgu = s.mgu ∧ (s.writeRec i r).hostOut = s.hostOut ∧ (s.writeRec i r).shelfOut = s.shelfOut ∧ (s.writeRec i r).responses = s.responses ∧ (s.writeRec i r).freeCount = s.freeCount := by
  simp only [State.writeRec]
  (repeat' split) <;> simp

/-- What `storeRun` leaves unchanged. -/
@[simp] theorem State.storeRun_keeps (s : State) (i : Nat) (rs : List ExtRec) :
    (s.storeRun i rs).pending = s.pending ∧ (s.storeRun i rs).resetn = s.resetn ∧ (s.storeRun i rs).hli = s.hli ∧ (s.storeRun i rs).cau = s.cau ∧ (s.storeRun i rs).fre = s.fre ∧ (s.storeRun i rs).mgc = s.mgc ∧ (s.storeRun i rs).cpm = s.cpm ∧ (s.storeRun i rs).acg = s.acg ∧ (s.storeRun i rs).dvq = s.dvq ∧ (s.storeRun i rs).spc = s.spc ∧ (s.storeRun i rs).msb = s.msb ∧ (s.storeRun i rs).fnu = s.fnu ∧ (s.storeRun i rs).mgu = s.mgu ∧ (s.storeRun i rs).hostOut = s.hostOut ∧ (s.storeRun i rs).shelfOut = s.shelfOut ∧ (s.storeRun i rs).responses = s.responses ∧ (s.storeRun i rs).freeCount = s.freeCount := by
  induction rs generalizing s i with
  | nil => simp [State.storeRun]
  | cons a l ih =>
    simp only [State.storeRun]
    simp [ih]

/-- What `recheckAll` leaves unchanged. -/
@[simp] theorem State.recheckAll_keeps (s : State) (ks : List Nat) :
    (s.recheckAll ks).pending = s.pending ∧ (s.recheckAll ks).resetn = s.resetn ∧ (s.recheckAll ks).lmu = s.lmu ∧ (s.recheckAll ks).hli = s.hli ∧ (s.recheckAll ks).cau = s.cau ∧ (s.recheckAll ks).fre = s.fre ∧ (s.recheckAll ks).mgc = s.mgc ∧ (s.recheckAll ks).cpm = s.cpm ∧ (s.recheckAll ks).acg = s.acg ∧ (s.recheckAll ks).dvq = s.dvq ∧ (s.recheckAll ks).spc = s.spc ∧ (s.recheckAll ks).fnu = s.fnu ∧ (s.recheckAll ks).mgu = s.mgu ∧ (s.recheckAll ks).hostOut = s.hostOut ∧ (s.recheckAll ks).shelfOut = s.shelfOut ∧ (s.recheckAll ks).responses = s.responses ∧ (s.recheckAll ks).freeCount = s.freeCount := by
  induction ks generalizing s with
  | nil => simp [State.recheckAll]
  | cons a l ih =>
    simp only [State.recheckAll]
    (repeat' split) <;> simp [ih]

/-- What `writeRun` leaves unchanged. -/
@[simp] theorem State.writeRun_keeps (s : State) (i : Nat) (rs : List ExtRec) :
    (s.writeRun i rs).pending = s.pending ∧ (s.writeRun i rs).resetn = s.resetn ∧ (s.writeRun i rs).hli = s.hli ∧ (s.writeRun i rs).cau = s.cau ∧ (s.writeRun i rs).fre = s.fre ∧ (s.writeRun i rs).mgc = s.mgc ∧ (s.writeRun i rs).cpm = s.cpm ∧ (s.writeRun i rs).acg = s.acg ∧ (s.writeRun i rs).dvq = s.dvq ∧ (s.writeRun i rs).spc = s.spc ∧ (s.writeRun i rs).fnu = s.fnu ∧ (s.writeRun i rs).mgu = s.mgu ∧ (s.writeRun i rs).hostOut = s.hostOut ∧ (s.writeRun i rs).shelfOut = s.shelfOut ∧ (s.writeRun i rs).responses = s.responses ∧ (s.writeRun i rs).freeCount = s.freeCount := by
  simp only [State.writeRun]
  simp

/-- What `dropRecordHolds` leaves unchanged. -/
@[simp] theorem State.dropRecordHolds_keeps (s : State) (i n : Nat) :
    (s.dropRecordHolds i n).pending = s.pending ∧ (s.dropRecordHolds i n).resetn = s.resetn ∧ (s.dropRecordHolds i n).hli = s.hli ∧ (s.dropRecordHolds i n).cau = s.cau ∧ (s.dropRecordHolds i n).fre = s.fre ∧ (s.dropRecordHolds i n).mgc = s.mgc ∧ (s.dropRecordHolds i n).cpm = s.cpm ∧ (s.dropRecordHolds i n).acg = s.acg ∧ (s.dropRecordHolds i n).dvq = s.dvq ∧ (s.dropRecordHolds i n).spc = s.spc ∧ (s.dropRecordHolds i n).msb = s.msb ∧ (s.dropRecordHolds i n).fnu = s.fnu ∧ (s.dropRecordHolds i n).mgu = s.mgu ∧ (s.dropRecordHolds i n).hostOut = s.hostOut ∧ (s.dropRecordHolds i n).shelfOut = s.shelfOut ∧ (s.dropRecordHolds i n).responses = s.responses ∧ (s.dropRecordHolds i n).freeCount = s.freeCount := by
  simp only [State.dropRecordHolds]
  simp

/-- What `holdRun` leaves unchanged. -/
@[simp] theorem State.holdRun_keeps (s : State) (i : Nat) (ls : List Loc) :
    (s.holdRun i ls).pending = s.pending ∧ (s.holdRun i ls).resetn = s.resetn ∧ (s.holdRun i ls).hli = s.hli ∧ (s.holdRun i ls).cau = s.cau ∧ (s.holdRun i ls).fre = s.fre ∧ (s.holdRun i ls).mgc = s.mgc ∧ (s.holdRun i ls).cpm = s.cpm ∧ (s.holdRun i ls).acg = s.acg ∧ (s.holdRun i ls).dvq = s.dvq ∧ (s.holdRun i ls).spc = s.spc ∧ (s.holdRun i ls).msb = s.msb ∧ (s.holdRun i ls).fnu = s.fnu ∧ (s.holdRun i ls).mgu = s.mgu ∧ (s.holdRun i ls).hostOut = s.hostOut ∧ (s.holdRun i ls).shelfOut = s.shelfOut ∧ (s.holdRun i ls).responses = s.responses ∧ (s.holdRun i ls).freeCount = s.freeCount := by
  induction ls generalizing s i with
  | nil => simp [State.holdRun]
  | cons a l ih =>
    simp only [State.holdRun]
    simp [ih]

/-- What `flagGrowth` leaves unchanged. -/
@[simp] theorem State.flagGrowth_keeps (s : State) (v : Nat) :
    (s.flagGrowth v).pending = s.pending ∧ (s.flagGrowth v).resetn = s.resetn ∧ (s.flagGrowth v).lmu = s.lmu ∧ (s.flagGrowth v).hli = s.hli ∧ (s.flagGrowth v).fre = s.fre ∧ (s.flagGrowth v).mgc = s.mgc ∧ (s.flagGrowth v).cpm = s.cpm ∧ (s.flagGrowth v).acg = s.acg ∧ (s.flagGrowth v).dvq = s.dvq ∧ (s.flagGrowth v).spc = s.spc ∧ (s.flagGrowth v).msb = s.msb ∧ (s.flagGrowth v).fnu = s.fnu ∧ (s.flagGrowth v).mgu = s.mgu ∧ (s.flagGrowth v).hostOut = s.hostOut ∧ (s.flagGrowth v).shelfOut = s.shelfOut ∧ (s.flagGrowth v).responses = s.responses ∧ (s.flagGrowth v).freeCount = s.freeCount := by
  simp only [State.flagGrowth]
  simp

/-- What `fence` leaves unchanged. -/
@[simp] theorem State.fence_keeps (s : State) (k : Nat) (cause : FenceCause) (a b : BitVec 32) :
    (s.fence k cause a b).pending = s.pending ∧ (s.fence k cause a b).resetn = s.resetn ∧ (s.fence k cause a b).lmu = s.lmu ∧ (s.fence k cause a b).hli = s.hli ∧ (s.fence k cause a b).cau = s.cau ∧ (s.fence k cause a b).fre = s.fre ∧ (s.fence k cause a b).cpm = s.cpm ∧ (s.fence k cause a b).acg = s.acg ∧ (s.fence k cause a b).dvq = s.dvq ∧ (s.fence k cause a b).spc = s.spc ∧ (s.fence k cause a b).mgu = s.mgu ∧ (s.fence k cause a b).hostOut = s.hostOut ∧ (s.fence k cause a b).shelfOut = s.shelfOut ∧ (s.fence k cause a b).responses = s.responses ∧ (s.fence k cause a b).freeCount = s.freeCount := by
  simp only [State.fence]
  (repeat' split) <;> simp

/-- What `tryUnfence` leaves unchanged. -/
@[simp] theorem State.tryUnfence_keeps (s : State) (k : Nat) :
    (s.tryUnfence k).pending = s.pending ∧ (s.tryUnfence k).resetn = s.resetn ∧ (s.tryUnfence k).hli = s.hli ∧ (s.tryUnfence k).cau = s.cau ∧ (s.tryUnfence k).fre = s.fre ∧ (s.tryUnfence k).mgc = s.mgc ∧ (s.tryUnfence k).cpm = s.cpm ∧ (s.tryUnfence k).acg = s.acg ∧ (s.tryUnfence k).dvq = s.dvq ∧ (s.tryUnfence k).spc = s.spc ∧ (s.tryUnfence k).fnu = s.fnu ∧ (s.tryUnfence k).mgu = s.mgu ∧ (s.tryUnfence k).hostOut = s.hostOut ∧ (s.tryUnfence k).shelfOut = s.shelfOut ∧ (s.tryUnfence k).responses = s.responses ∧ (s.tryUnfence k).freeCount = s.freeCount := by
  simp only [State.tryUnfence]
  (repeat' split) <;> simp

/-- What `reload` leaves unchanged. -/
@[simp] theorem State.reload_keeps (s : State) (i n : Nat) (ks : List Nat) :
    (s.reload i n ks).pending = s.pending ∧ (s.reload i n ks).resetn = s.resetn ∧ (s.reload i n ks).hli = s.hli ∧ (s.reload i n ks).cau = s.cau ∧ (s.reload i n ks).fre = s.fre ∧ (s.reload i n ks).mgc = s.mgc ∧ (s.reload i n ks).cpm = s.cpm ∧ (s.reload i n ks).acg = s.acg ∧ (s.reload i n ks).dvq = s.dvq ∧ (s.reload i n ks).spc = s.spc ∧ (s.reload i n ks).fnu = s.fnu ∧ (s.reload i n ks).mgu = s.mgu ∧ (s.reload i n ks).hostOut = s.hostOut ∧ (s.reload i n ks).shelfOut = s.shelfOut ∧ (s.reload i n ks).responses = s.responses ∧ (s.reload i n ks).freeCount = s.freeCount := by
  induction ks generalizing s with
  | nil => simp [State.reload]
  | cons a l ih =>
    simp only [State.reload]
    (repeat' split) <;> simp [ih]

/-- What `rejoin` leaves unchanged. -/
@[simp] theorem State.rejoin_keeps (s : State) (es : List Nat) (p : EntryPoint) :
    (s.rejoin es p).pending = s.pending ∧ (s.rejoin es p).resetn = s.resetn ∧ (s.rejoin es p).lmu = s.lmu ∧ (s.rejoin es p).hli = s.hli ∧ (s.rejoin es p).cau = s.cau ∧ (s.rejoin es p).mgc = s.mgc ∧ (s.rejoin es p).cpm = s.cpm ∧ (s.rejoin es p).acg = s.acg ∧ (s.rejoin es p).dvq = s.dvq ∧ (s.rejoin es p).spc = s.spc ∧ (s.rejoin es p).msb = s.msb ∧ (s.rejoin es p).fnu = s.fnu ∧ (s.rejoin es p).mgu = s.mgu ∧ (s.rejoin es p).hostOut = s.hostOut ∧ (s.rejoin es p).shelfOut = s.shelfOut ∧ (s.rejoin es p).responses = s.responses ∧ (s.rejoin es p).freeCount = s.freeCount := by
  induction es generalizing s with
  | nil => simp [State.rejoin]
  | cons a l ih =>
    simp only [State.rejoin]
    (repeat' split) <;> simp [ih]

/-- What `freeSlot` leaves unchanged. -/
@[simp] theorem State.freeSlot_keeps (s : State) (i : Nat) :
    (s.freeSlot i).pending = s.pending ∧ (s.freeSlot i).resetn = s.resetn ∧ (s.freeSlot i).lmu = s.lmu ∧ (s.freeSlot i).hli = s.hli ∧ (s.freeSlot i).cau = s.cau ∧ (s.freeSlot i).fre = s.fre ∧ (s.freeSlot i).cpm = s.cpm ∧ (s.freeSlot i).acg = s.acg ∧ (s.freeSlot i).dvq = s.dvq ∧ (s.freeSlot i).spc = s.spc ∧ (s.freeSlot i).msb = s.msb ∧ (s.freeSlot i).fnu = s.fnu ∧ (s.freeSlot i).mgu = s.mgu ∧ (s.freeSlot i).hostOut = s.hostOut ∧ (s.freeSlot i).shelfOut = s.shelfOut ∧ (s.freeSlot i).responses = s.responses ∧ (s.freeSlot i).freeCount = s.freeCount := by
  simp only [State.freeSlot]
  simp

/-- What `releaseHeld` leaves unchanged. -/
@[simp] theorem State.releaseHeld_keeps (s : State) (i : Nat) :
    (s.releaseHeld i).pending = s.pending ∧ (s.releaseHeld i).resetn = s.resetn ∧ (s.releaseHeld i).lmu = s.lmu ∧ (s.releaseHeld i).hli = s.hli ∧ (s.releaseHeld i).cau = s.cau ∧ (s.releaseHeld i).cpm = s.cpm ∧ (s.releaseHeld i).acg = s.acg ∧ (s.releaseHeld i).dvq = s.dvq ∧ (s.releaseHeld i).spc = s.spc ∧ (s.releaseHeld i).msb = s.msb ∧ (s.releaseHeld i).fnu = s.fnu ∧ (s.releaseHeld i).mgu = s.mgu ∧ (s.releaseHeld i).hostOut = s.hostOut ∧ (s.releaseHeld i).shelfOut = s.shelfOut ∧ (s.releaseHeld i).responses = s.responses ∧ (s.releaseHeld i).freeCount = s.freeCount := by
  simp only [State.releaseHeld]
  (repeat' split) <;> simp

/-- What `cancelLanes` leaves unchanged. -/
@[simp] theorem State.cancelLanes_keeps (s : State) (i : Nat) :
    (s.cancelLanes i).pending = s.pending ∧ (s.cancelLanes i).resetn = s.resetn ∧ (s.cancelLanes i).lmu = s.lmu ∧ (s.cancelLanes i).hli = s.hli ∧ (s.cancelLanes i).cau = s.cau ∧ (s.cancelLanes i).fre = s.fre ∧ (s.cancelLanes i).mgc = s.mgc ∧ (s.cancelLanes i).acg = s.acg ∧ (s.cancelLanes i).dvq = s.dvq ∧ (s.cancelLanes i).spc = s.spc ∧ (s.cancelLanes i).msb = s.msb ∧ (s.cancelLanes i).fnu = s.fnu ∧ (s.cancelLanes i).mgu = s.mgu ∧ (s.cancelLanes i).hostOut = s.hostOut ∧ (s.cancelLanes i).shelfOut = s.shelfOut ∧ (s.cancelLanes i).responses = s.responses ∧ (s.cancelLanes i).freeCount = s.freeCount := by
  simp only [State.cancelLanes]
  simp

/-- What `abandon` leaves unchanged. -/
@[simp] theorem State.abandon_keeps (s : State) (i : Nat) (why : Reason) :
    (s.abandon i why).pending = s.pending ∧ (s.abandon i why).resetn = s.resetn ∧ (s.abandon i why).hli = s.hli ∧ (s.abandon i why).cau = s.cau ∧ (s.abandon i why).acg = s.acg ∧ (s.abandon i why).dvq = s.dvq ∧ (s.abandon i why).spc = s.spc ∧ (s.abandon i why).fnu = s.fnu ∧ (s.abandon i why).mgu = s.mgu ∧ (s.abandon i why).hostOut = s.hostOut ∧ (s.abandon i why).shelfOut = s.shelfOut ∧ (s.abandon i why).responses = s.responses ∧ (s.abandon i why).freeCount = s.freeCount := by
  simp only [State.abandon]
  (repeat' split) <;> simp

/-- What `abandonDone` leaves unchanged. -/
@[simp] theorem State.abandonDone_keeps (s : State) (i : Nat) (m : Move) :
    (s.abandonDone i m).pending = s.pending ∧ (s.abandonDone i m).resetn = s.resetn ∧ (s.abandonDone i m).hli = s.hli ∧ (s.abandonDone i m).cau = s.cau ∧ (s.abandonDone i m).fre = s.fre ∧ (s.abandonDone i m).cpm = s.cpm ∧ (s.abandonDone i m).acg = s.acg ∧ (s.abandonDone i m).dvq = s.dvq ∧ (s.abandonDone i m).spc = s.spc ∧ (s.abandonDone i m).msb = s.msb ∧ (s.abandonDone i m).mgu = s.mgu ∧ (s.abandonDone i m).hostOut = s.hostOut ∧ (s.abandonDone i m).shelfOut = s.shelfOut ∧ (s.abandonDone i m).responses = s.responses ∧ (s.abandonDone i m).freeCount = s.freeCount := by
  simp only [State.abandonDone]
  simp

/-- What `retireDone` leaves unchanged. -/
@[simp] theorem State.retireDone_keeps (s : State) (i : Nat) (c : Claim) :
    (s.retireDone i c).pending = s.pending ∧ (s.retireDone i c).resetn = s.resetn ∧ (s.retireDone i c).hli = s.hli ∧ (s.retireDone i c).cau = s.cau ∧ (s.retireDone i c).fre = s.fre ∧ (s.retireDone i c).cpm = s.cpm ∧ (s.retireDone i c).acg = s.acg ∧ (s.retireDone i c).dvq = s.dvq ∧ (s.retireDone i c).spc = s.spc ∧ (s.retireDone i c).msb = s.msb ∧ (s.retireDone i c).mgu = s.mgu ∧ (s.retireDone i c).hostOut = s.hostOut ∧ (s.retireDone i c).shelfOut = s.shelfOut ∧ (s.retireDone i c).responses = s.responses ∧ (s.retireDone i c).freeCount = s.freeCount := by
  simp only [State.retireDone]
  simp

/-- What `flip` leaves unchanged. -/
@[simp] theorem State.flip_keeps (s : State) (i : Nat) :
    (s.flip i).pending = s.pending ∧ (s.flip i).resetn = s.resetn ∧ (s.flip i).hli = s.hli ∧ (s.flip i).cau = s.cau ∧ (s.flip i).acg = s.acg ∧ (s.flip i).dvq = s.dvq ∧ (s.flip i).spc = s.spc ∧ (s.flip i).fnu = s.fnu ∧ (s.flip i).mgu = s.mgu ∧ (s.flip i).hostOut = s.hostOut ∧ (s.flip i).shelfOut = s.shelfOut ∧ (s.flip i).responses = s.responses ∧ (s.flip i).freeCount = s.freeCount := by
  simp only [State.flip]
  (repeat' split) <;> simp

/-- What `flushDone` leaves unchanged. -/
@[simp] theorem State.flushDone_keeps (s : State) (i : Nat) (q : Byte) (o : FragOutcome) :
    (s.flushDone i q o).pending = s.pending ∧ (s.flushDone i q o).resetn = s.resetn ∧ (s.flushDone i q o).hli = s.hli ∧ (s.flushDone i q o).cau = s.cau ∧ (s.flushDone i q o).acg = s.acg ∧ (s.flushDone i q o).dvq = s.dvq ∧ (s.flushDone i q o).spc = s.spc ∧ (s.flushDone i q o).fnu = s.fnu ∧ (s.flushDone i q o).mgu = s.mgu ∧ (s.flushDone i q o).hostOut = s.hostOut ∧ (s.flushDone i q o).shelfOut = s.shelfOut ∧ (s.flushDone i q o).responses = s.responses ∧ (s.flushDone i q o).freeCount = s.freeCount := by
  simp only [State.flushDone]
  (repeat' split) <;> simp

/-- What `sendFlush` leaves unchanged. -/
@[simp] theorem State.sendFlush_keeps (s : State) (i : Nat) (q : Byte) (p : Nat) :
    (s.sendFlush i q p).pending = s.pending ∧ (s.sendFlush i q p).resetn = s.resetn ∧ (s.sendFlush i q p).lmu = s.lmu ∧ (s.sendFlush i q p).hli = s.hli ∧ (s.sendFlush i q p).cau = s.cau ∧ (s.sendFlush i q p).fre = s.fre ∧ (s.sendFlush i q p).cpm = s.cpm ∧ (s.sendFlush i q p).dvq = s.dvq ∧ (s.sendFlush i q p).spc = s.spc ∧ (s.sendFlush i q p).msb = s.msb ∧ (s.sendFlush i q p).fnu = s.fnu ∧ (s.sendFlush i q p).mgu = s.mgu ∧ (s.sendFlush i q p).hostOut = s.hostOut ∧ (s.sendFlush i q p).responses = s.responses ∧ (s.sendFlush i q p).freeCount = s.freeCount := by
  simp only [State.sendFlush]
  simp

/-- What `issueFlush` leaves unchanged. -/
@[simp] theorem State.issueFlush_keeps (s : State) (i : Nat) (c : Claim) (m : Move) :
    (s.issueFlush i c m).pending = s.pending ∧ (s.issueFlush i c m).resetn = s.resetn ∧ (s.issueFlush i c m).hli = s.hli ∧ (s.issueFlush i c m).cau = s.cau ∧ (s.issueFlush i c m).dvq = s.dvq ∧ (s.issueFlush i c m).spc = s.spc ∧ (s.issueFlush i c m).fnu = s.fnu ∧ (s.issueFlush i c m).mgu = s.mgu ∧ (s.issueFlush i c m).hostOut = s.hostOut ∧ (s.issueFlush i c m).responses = s.responses ∧ (s.issueFlush i c m).freeCount = s.freeCount := by
  simp only [State.issueFlush]
  (repeat' split) <;> simp

/-- What `enterCutover` leaves unchanged. -/
@[simp] theorem State.enterCutover_keeps (s : State) (i : Nat) (c : Claim) (m : Move) :
    (s.enterCutover i c m).pending = s.pending ∧ (s.enterCutover i c m).resetn = s.resetn ∧ (s.enterCutover i c m).lmu = s.lmu ∧ (s.enterCutover i c m).hli = s.hli ∧ (s.enterCutover i c m).cau = s.cau ∧ (s.enterCutover i c m).fre = s.fre ∧ (s.enterCutover i c m).cpm = s.cpm ∧ (s.enterCutover i c m).acg = s.acg ∧ (s.enterCutover i c m).dvq = s.dvq ∧ (s.enterCutover i c m).spc = s.spc ∧ (s.enterCutover i c m).msb = s.msb ∧ (s.enterCutover i c m).fnu = s.fnu ∧ (s.enterCutover i c m).mgu = s.mgu ∧ (s.enterCutover i c m).hostOut = s.hostOut ∧ (s.enterCutover i c m).shelfOut = s.shelfOut ∧ (s.enterCutover i c m).responses = s.responses ∧ (s.enterCutover i c m).freeCount = s.freeCount := by
  simp only [State.enterCutover]
  simp

/-- What `endPasses` leaves unchanged. -/
@[simp] theorem State.endPasses_keeps (s : State) (i n : Nat) :
    (s.endPasses i n).pending = s.pending ∧ (s.endPasses i n).resetn = s.resetn ∧ (s.endPasses i n).lmu = s.lmu ∧ (s.endPasses i n).hli = s.hli ∧ (s.endPasses i n).cau = s.cau ∧ (s.endPasses i n).fre = s.fre ∧ (s.endPasses i n).cpm = s.cpm ∧ (s.endPasses i n).acg = s.acg ∧ (s.endPasses i n).dvq = s.dvq ∧ (s.endPasses i n).spc = s.spc ∧ (s.endPasses i n).msb = s.msb ∧ (s.endPasses i n).fnu = s.fnu ∧ (s.endPasses i n).mgu = s.mgu ∧ (s.endPasses i n).hostOut = s.hostOut ∧ (s.endPasses i n).shelfOut = s.shelfOut ∧ (s.endPasses i n).responses = s.responses := by
  induction n generalizing s with
  | zero => simp [State.endPasses]
  | succ n ih =>
    simp only [State.endPasses]
    (repeat' split) <;> simp [ih]

/-- What `tryFlush` leaves unchanged. -/
@[simp] theorem State.tryFlush_keeps (s : State) (i : Nat) :
    (s.tryFlush i).pending = s.pending ∧ (s.tryFlush i).resetn = s.resetn ∧ (s.tryFlush i).hli = s.hli ∧ (s.tryFlush i).cau = s.cau ∧ (s.tryFlush i).dvq = s.dvq ∧ (s.tryFlush i).spc = s.spc ∧ (s.tryFlush i).fnu = s.fnu ∧ (s.tryFlush i).mgu = s.mgu ∧ (s.tryFlush i).hostOut = s.hostOut ∧ (s.tryFlush i).responses = s.responses ∧ (s.tryFlush i).freeCount = s.freeCount := by
  simp only [State.tryFlush]
  (repeat' split) <;> simp

/-- What `tryFinish` leaves unchanged. -/
@[simp] theorem State.tryFinish_keeps (s : State) (i : Nat) :
    (s.tryFinish i).pending = s.pending ∧ (s.tryFinish i).resetn = s.resetn ∧ (s.tryFinish i).hli = s.hli ∧ (s.tryFinish i).cau = s.cau ∧ (s.tryFinish i).fre = s.fre ∧ (s.tryFinish i).cpm = s.cpm ∧ (s.tryFinish i).acg = s.acg ∧ (s.tryFinish i).dvq = s.dvq ∧ (s.tryFinish i).spc = s.spc ∧ (s.tryFinish i).msb = s.msb ∧ (s.tryFinish i).mgu = s.mgu ∧ (s.tryFinish i).hostOut = s.hostOut ∧ (s.tryFinish i).shelfOut = s.shelfOut ∧ (s.tryFinish i).responses = s.responses ∧ (s.tryFinish i).freeCount = s.freeCount := by
  simp only [State.tryFinish]
  (repeat' split) <;> simp

/-- What `settleSlot` leaves unchanged. -/
@[simp] theorem State.settleSlot_keeps (s : State) (i : Nat) :
    (s.settleSlot i).pending = s.pending ∧ (s.settleSlot i).resetn = s.resetn ∧ (s.settleSlot i).hli = s.hli ∧ (s.settleSlot i).cau = s.cau ∧ (s.settleSlot i).dvq = s.dvq ∧ (s.settleSlot i).spc = s.spc ∧ (s.settleSlot i).mgu = s.mgu ∧ (s.settleSlot i).hostOut = s.hostOut ∧ (s.settleSlot i).responses = s.responses := by
  simp only [State.settleSlot]
  simp

/-- What `settle` leaves unchanged. -/
@[simp] theorem State.settle_keeps (s : State) :
    (s.settle).pending = s.pending ∧ (s.settle).resetn = s.resetn ∧ (s.settle).hli = s.hli ∧ (s.settle).cau = s.cau ∧ (s.settle).dvq = s.dvq ∧ (s.settle).spc = s.spc ∧ (s.settle).mgu = s.mgu ∧ (s.settle).hostOut = s.hostOut ∧ (s.settle).responses = s.responses := by
  simp only [State.settle]
  simp

/-- What `created` leaves unchanged. -/
@[simp] theorem State.created_keeps (s : State) (k : Mark) :
    (s.created k).pending = s.pending ∧ (s.created k).resetn = s.resetn ∧ (s.created k).lmu = s.lmu ∧ (s.created k).hli = s.hli ∧ (s.created k).cau = s.cau ∧ (s.created k).fre = s.fre ∧ (s.created k).cpm = s.cpm ∧ (s.created k).acg = s.acg ∧ (s.created k).dvq = s.dvq ∧ (s.created k).spc = s.spc ∧ (s.created k).msb = s.msb ∧ (s.created k).fnu = s.fnu ∧ (s.created k).mgu = s.mgu ∧ (s.created k).hostOut = s.hostOut ∧ (s.created k).shelfOut = s.shelfOut ∧ (s.created k).responses = s.responses ∧ (s.created k).freeCount = s.freeCount := by
  simp only [State.created]
  (repeat' split) <;> simp

/-- What `completed` leaves unchanged. -/
@[simp] theorem State.completed_keeps (s : State) (k : Mark) :
    (s.completed k).pending = s.pending ∧ (s.completed k).resetn = s.resetn ∧ (s.completed k).lmu = s.lmu ∧ (s.completed k).hli = s.hli ∧ (s.completed k).cau = s.cau ∧ (s.completed k).fre = s.fre ∧ (s.completed k).cpm = s.cpm ∧ (s.completed k).acg = s.acg ∧ (s.completed k).dvq = s.dvq ∧ (s.completed k).spc = s.spc ∧ (s.completed k).msb = s.msb ∧ (s.completed k).fnu = s.fnu ∧ (s.completed k).mgu = s.mgu ∧ (s.completed k).hostOut = s.hostOut ∧ (s.completed k).shelfOut = s.shelfOut ∧ (s.completed k).responses = s.responses ∧ (s.completed k).freeCount = s.freeCount := by
  simp only [State.completed]
  (repeat' split) <;> simp

/-- What `drained` leaves unchanged. -/
@[simp] theorem State.drained_keeps (s : State) (n : Nat) :
    (s.drained n).pending = s.pending ∧ (s.drained n).resetn = s.resetn ∧ (s.drained n).lmu = s.lmu ∧ (s.drained n).hli = s.hli ∧ (s.drained n).cau = s.cau ∧ (s.drained n).fre = s.fre ∧ (s.drained n).cpm = s.cpm ∧ (s.drained n).acg = s.acg ∧ (s.drained n).dvq = s.dvq ∧ (s.drained n).spc = s.spc ∧ (s.drained n).msb = s.msb ∧ (s.drained n).fnu = s.fnu ∧ (s.drained n).mgu = s.mgu ∧ (s.drained n).hostOut = s.hostOut ∧ (s.drained n).shelfOut = s.shelfOut ∧ (s.drained n).responses = s.responses ∧ (s.drained n).freeCount = s.freeCount := by
  simp only [State.drained]
  (repeat' apply And.intro) <;> (first | apply foldl_pending | apply foldl_resetn | apply foldl_lmu | apply foldl_hli | apply foldl_cau | apply foldl_fre | apply foldl_mgc | apply foldl_cpm | apply foldl_acg | apply foldl_dvq | apply foldl_spc | apply foldl_msb | apply foldl_fnu | apply foldl_mgu | apply foldl_hostOut | apply foldl_shelfOut | apply foldl_responses | apply foldl_freeCount) <;> (first | (simp; done) | (intro t x; (repeat' split) <;> simp))

/-- What `claimZero` leaves unchanged. -/
@[simp] theorem State.claimZero_keeps (s : State) (i v x j : Nat) :
    (s.claimZero i v x j).pending = s.pending ∧ (s.claimZero i v x j).resetn = s.resetn ∧ (s.claimZero i v x j).hli = s.hli ∧ (s.claimZero i v x j).cau = s.cau ∧ (s.claimZero i v x j).fre = s.fre ∧ (s.claimZero i v x j).cpm = s.cpm ∧ (s.claimZero i v x j).acg = s.acg ∧ (s.claimZero i v x j).dvq = s.dvq ∧ (s.claimZero i v x j).spc = s.spc ∧ (s.claimZero i v x j).fnu = s.fnu ∧ (s.claimZero i v x j).mgu = s.mgu ∧ (s.claimZero i v x j).hostOut = s.hostOut ∧ (s.claimZero i v x j).shelfOut = s.shelfOut ∧ (s.claimZero i v x j).responses = s.responses ∧ (s.claimZero i v x j).freeCount = s.freeCount := by
  simp only [State.claimZero]
  simp

/-- What `claimMove` leaves unchanged. -/
@[simp] theorem State.claimMove_keeps (s : State) (i v x j : Nat) (l : Loc) :
    (s.claimMove i v x j l).pending = s.pending ∧ (s.claimMove i v x j l).resetn = s.resetn ∧ (s.claimMove i v x j l).hli = s.hli ∧ (s.claimMove i v x j l).cau = s.cau ∧ (s.claimMove i v x j l).fre = s.fre ∧ (s.claimMove i v x j l).cpm = s.cpm ∧ (s.claimMove i v x j l).acg = s.acg ∧ (s.claimMove i v x j l).dvq = s.dvq ∧ (s.claimMove i v x j l).spc = s.spc ∧ (s.claimMove i v x j l).fnu = s.fnu ∧ (s.claimMove i v x j l).mgu = s.mgu ∧ (s.claimMove i v x j l).hostOut = s.hostOut ∧ (s.claimMove i v x j l).shelfOut = s.shelfOut ∧ (s.claimMove i v x j l).responses = s.responses ∧ (s.claimMove i v x j l).freeCount = s.freeCount := by
  simp only [State.claimMove]
  simp

/-- What `restart` leaves unchanged. -/
@[simp] theorem State.restart_keeps (s : State) (i : Nat) :
    (s.restart i).pending = s.pending ∧ (s.restart i).resetn = s.resetn ∧ (s.restart i).lmu = s.lmu ∧ (s.restart i).hli = s.hli ∧ (s.restart i).cau = s.cau ∧ (s.restart i).fre = s.fre ∧ (s.restart i).cpm = s.cpm ∧ (s.restart i).acg = s.acg ∧ (s.restart i).dvq = s.dvq ∧ (s.restart i).spc = s.spc ∧ (s.restart i).msb = s.msb ∧ (s.restart i).fnu = s.fnu ∧ (s.restart i).mgu = s.mgu ∧ (s.restart i).hostOut = s.hostOut ∧ (s.restart i).shelfOut = s.shelfOut ∧ (s.restart i).responses = s.responses ∧ (s.restart i).freeCount = s.freeCount := by
  simp only [State.restart]
  (repeat' split) <;> simp

/-- What `cutoverExpired` leaves unchanged. -/
@[simp] theorem State.cutoverExpired_keeps (s : State) (i : Nat) :
    (s.cutoverExpired i).pending = s.pending ∧ (s.cutoverExpired i).resetn = s.resetn ∧ (s.cutoverExpired i).hli = s.hli ∧ (s.cutoverExpired i).cau = s.cau ∧ (s.cutoverExpired i).acg = s.acg ∧ (s.cutoverExpired i).dvq = s.dvq ∧ (s.cutoverExpired i).spc = s.spc ∧ (s.cutoverExpired i).fnu = s.fnu ∧ (s.cutoverExpired i).mgu = s.mgu ∧ (s.cutoverExpired i).hostOut = s.hostOut ∧ (s.cutoverExpired i).shelfOut = s.shelfOut ∧ (s.cutoverExpired i).responses = s.responses ∧ (s.cutoverExpired i).freeCount = s.freeCount := by
  simp only [State.cutoverExpired]
  (repeat' split) <;> simp

/-- What `takeFence` leaves unchanged. -/
@[simp] theorem State.takeFence_keeps (s : State) (i : Nat) :
    (s.takeFence i).pending = s.pending ∧ (s.takeFence i).resetn = s.resetn ∧ (s.takeFence i).hli = s.hli ∧ (s.takeFence i).cau = s.cau ∧ (s.takeFence i).acg = s.acg ∧ (s.takeFence i).dvq = s.dvq ∧ (s.takeFence i).spc = s.spc ∧ (s.takeFence i).fnu = s.fnu ∧ (s.takeFence i).mgu = s.mgu ∧ (s.takeFence i).hostOut = s.hostOut ∧ (s.takeFence i).shelfOut = s.shelfOut ∧ (s.takeFence i).responses = s.responses ∧ (s.takeFence i).freeCount = s.freeCount := by
  simp only [State.takeFence]
  (repeat' split) <;> simp

/-- What `takeExit` leaves unchanged. -/
@[simp] theorem State.takeExit_keeps (s : State) (i p : Nat) :
    (s.takeExit i p).pending = s.pending ∧ (s.takeExit i p).resetn = s.resetn ∧ (s.takeExit i p).hli = s.hli ∧ (s.takeExit i p).cau = s.cau ∧ (s.takeExit i p).acg = s.acg ∧ (s.takeExit i p).dvq = s.dvq ∧ (s.takeExit i p).spc = s.spc ∧ (s.takeExit i p).fnu = s.fnu ∧ (s.takeExit i p).mgu = s.mgu ∧ (s.takeExit i p).hostOut = s.hostOut ∧ (s.takeExit i p).shelfOut = s.shelfOut ∧ (s.takeExit i p).responses = s.responses ∧ (s.takeExit i p).freeCount = s.freeCount := by
  simp only [State.takeExit]
  (repeat' split) <;> simp

/-- What `releaseClean` leaves unchanged. -/
@[simp] theorem State.releaseClean_keeps (s : State) (i : Nat) :
    (s.releaseClean i).pending = s.pending ∧ (s.releaseClean i).resetn = s.resetn ∧ (s.releaseClean i).lmu = s.lmu ∧ (s.releaseClean i).hli = s.hli ∧ (s.releaseClean i).cau = s.cau ∧ (s.releaseClean i).cpm = s.cpm ∧ (s.releaseClean i).acg = s.acg ∧ (s.releaseClean i).dvq = s.dvq ∧ (s.releaseClean i).spc = s.spc ∧ (s.releaseClean i).msb = s.msb ∧ (s.releaseClean i).fnu = s.fnu ∧ (s.releaseClean i).mgu = s.mgu ∧ (s.releaseClean i).hostOut = s.hostOut ∧ (s.releaseClean i).shelfOut = s.shelfOut ∧ (s.releaseClean i).responses = s.responses ∧ (s.releaseClean i).freeCount = s.freeCount := by
  simp only [State.releaseClean]
  (repeat' split) <;> simp

/-- What `zeroingDone` leaves unchanged. -/
@[simp] theorem State.zeroingDone_keeps (s : State) (i : Nat) :
    (s.zeroingDone i).pending = s.pending ∧ (s.zeroingDone i).resetn = s.resetn ∧ (s.zeroingDone i).hli = s.hli ∧ (s.zeroingDone i).cau = s.cau ∧ (s.zeroingDone i).fre = s.fre ∧ (s.zeroingDone i).cpm = s.cpm ∧ (s.zeroingDone i).acg = s.acg ∧ (s.zeroingDone i).dvq = s.dvq ∧ (s.zeroingDone i).spc = s.spc ∧ (s.zeroingDone i).mgu = s.mgu ∧ (s.zeroingDone i).hostOut = s.hostOut ∧ (s.zeroingDone i).shelfOut = s.shelfOut ∧ (s.zeroingDone i).responses = s.responses ∧ (s.zeroingDone i).freeCount = s.freeCount := by
  simp only [State.zeroingDone]
  (repeat' split) <;> simp

/-- What `copyDone` leaves unchanged. -/
@[simp] theorem State.copyDone_keeps (s : State) (i k : Nat) (o : CopyOutcome) :
    (s.copyDone i k o).pending = s.pending ∧ (s.copyDone i k o).resetn = s.resetn ∧ (s.copyDone i k o).hli = s.hli ∧ (s.copyDone i k o).cau = s.cau ∧ (s.copyDone i k o).acg = s.acg ∧ (s.copyDone i k o).dvq = s.dvq ∧ (s.copyDone i k o).spc = s.spc ∧ (s.copyDone i k o).mgu = s.mgu ∧ (s.copyDone i k o).hostOut = s.hostOut ∧ (s.copyDone i k o).shelfOut = s.shelfOut ∧ (s.copyDone i k o).responses = s.responses ∧ (s.copyDone i k o).freeCount = s.freeCount := by
  simp only [State.copyDone]
  (repeat' split) <;> simp

/-- What `ownerTakes` leaves unchanged. -/
@[simp] theorem State.ownerTakes_keeps (s : State) (e : Nat) (f : Fragment) (o : FragOutcome) (d : List Block) :
    (s.ownerTakes e f o d).pending = s.pending ∧ (s.ownerTakes e f o d).resetn = s.resetn ∧ (s.ownerTakes e f o d).lmu = s.lmu ∧ (s.ownerTakes e f o d).hli = s.hli ∧ (s.ownerTakes e f o d).cau = s.cau ∧ (s.ownerTakes e f o d).mgc = s.mgc ∧ (s.ownerTakes e f o d).cpm = s.cpm ∧ (s.ownerTakes e f o d).acg = s.acg ∧ (s.ownerTakes e f o d).dvq = s.dvq ∧ (s.ownerTakes e f o d).spc = s.spc ∧ (s.ownerTakes e f o d).msb = s.msb ∧ (s.ownerTakes e f o d).fnu = s.fnu ∧ (s.ownerTakes e f o d).mgu = s.mgu ∧ (s.ownerTakes e f o d).shelfOut = s.shelfOut ∧ (s.ownerTakes e f o d).responses = s.responses := by
  simp only [State.ownerTakes]
  (repeat' split) <;> simp

/-- What `completeFrag` leaves unchanged. -/
@[simp] theorem State.completeFrag_keeps (s : State) (n : Nat) (o : FragOutcome) (d : List Block) :
    (s.completeFrag n o d).pending = s.pending ∧ (s.completeFrag n o d).resetn = s.resetn ∧ (s.completeFrag n o d).lmu = s.lmu ∧ (s.completeFrag n o d).hli = s.hli ∧ (s.completeFrag n o d).cau = s.cau ∧ (s.completeFrag n o d).cpm = s.cpm ∧ (s.completeFrag n o d).acg = s.acg ∧ (s.completeFrag n o d).dvq = s.dvq ∧ (s.completeFrag n o d).spc = s.spc ∧ (s.completeFrag n o d).msb = s.msb ∧ (s.completeFrag n o d).fnu = s.fnu ∧ (s.completeFrag n o d).mgu = s.mgu ∧ (s.completeFrag n o d).shelfOut = s.shelfOut ∧ (s.completeFrag n o d).responses = s.responses := by
  simp only [State.completeFrag]
  (repeat' split) <;> simp

/-- What `issueFrag` leaves unchanged. -/
@[simp] theorem State.issueFrag_keeps (s : State) (n : Nat) :
    (s.issueFrag n).pending = s.pending ∧ (s.issueFrag n).resetn = s.resetn ∧ (s.issueFrag n).lmu = s.lmu ∧ (s.issueFrag n).hli = s.hli ∧ (s.issueFrag n).cau = s.cau ∧ (s.issueFrag n).cpm = s.cpm ∧ (s.issueFrag n).dvq = s.dvq ∧ (s.issueFrag n).spc = s.spc ∧ (s.issueFrag n).msb = s.msb ∧ (s.issueFrag n).fnu = s.fnu ∧ (s.issueFrag n).mgu = s.mgu ∧ (s.issueFrag n).responses = s.responses := by
  simp only [State.issueFrag]
  (repeat' split) <;> simp

/-- What drawing a fragment leaves unchanged. -/
@[simp] theorem State.drawOne_keeps (s : State) (e : Nat) (d : Draw) : 
    ((s.drawOne e d).1).pending = s.pending ∧ ((s.drawOne e d).1).resetn = s.resetn ∧ ((s.drawOne e d).1).lmu = s.lmu ∧ ((s.drawOne e d).1).hli = s.hli ∧ ((s.drawOne e d).1).cau = s.cau ∧ ((s.drawOne e d).1).cpm = s.cpm ∧ ((s.drawOne e d).1).acg = s.acg ∧ ((s.drawOne e d).1).dvq = s.dvq ∧ ((s.drawOne e d).1).spc = s.spc ∧ ((s.drawOne e d).1).msb = s.msb ∧ ((s.drawOne e d).1).fnu = s.fnu ∧ ((s.drawOne e d).1).mgu = s.mgu ∧ ((s.drawOne e d).1).hostOut = s.hostOut ∧ ((s.drawOne e d).1).shelfOut = s.shelfOut ∧ ((s.drawOne e d).1).responses = s.responses ∧ ((s.drawOne e d).1).freeCount = s.freeCount := by
  simp only [State.drawOne]; split
  · simp
  · cases d.mark <;> simp

/-- What drawing fragments leaves unchanged. -/
@[simp] theorem State.drawAll_keeps (s : State) (e : Nat) (ds : List Draw) : 
    ((s.drawAll e ds).1).pending = s.pending ∧ ((s.drawAll e ds).1).resetn = s.resetn ∧ ((s.drawAll e ds).1).lmu = s.lmu ∧ ((s.drawAll e ds).1).hli = s.hli ∧ ((s.drawAll e ds).1).cau = s.cau ∧ ((s.drawAll e ds).1).cpm = s.cpm ∧ ((s.drawAll e ds).1).acg = s.acg ∧ ((s.drawAll e ds).1).dvq = s.dvq ∧ ((s.drawAll e ds).1).spc = s.spc ∧ ((s.drawAll e ds).1).msb = s.msb ∧ ((s.drawAll e ds).1).fnu = s.fnu ∧ ((s.drawAll e ds).1).mgu = s.mgu ∧ ((s.drawAll e ds).1).hostOut = s.hostOut ∧ ((s.drawAll e ds).1).shelfOut = s.shelfOut ∧ ((s.drawAll e ds).1).responses = s.responses ∧ ((s.drawAll e ds).1).freeCount = s.freeCount := by
  induction ds generalizing s with
  | nil => simp [State.drawAll]
  | cons d ds ih => simp [State.drawAll, ih]

/-- What `fragment` leaves unchanged. -/
@[simp] theorem State.fragment_keeps (s : State) (e : Nat) (c : Command) :
    (s.fragment e c).pending = s.pending ∧ (s.fragment e c).resetn = s.resetn ∧ (s.fragment e c).lmu = s.lmu ∧ (s.fragment e c).hli = s.hli ∧ (s.fragment e c).cau = s.cau ∧ (s.fragment e c).cpm = s.cpm ∧ (s.fragment e c).dvq = s.dvq ∧ (s.fragment e c).spc = s.spc ∧ (s.fragment e c).msb = s.msb ∧ (s.fragment e c).fnu = s.fnu ∧ (s.fragment e c).mgu = s.mgu ∧ (s.fragment e c).responses = s.responses := by
  simp only [State.fragment]
  (repeat' split) <;> simp

/-- What `clearPending` leaves unchanged. -/
@[simp] theorem State.clearPending_keeps (s : State) (p : HostPort) (r : CommandRecord) :
    (s.clearPending p r).pending = s.pending ∧ (s.clearPending p r).resetn = s.resetn ∧ (s.clearPending p r).lmu = s.lmu ∧ (s.clearPending p r).hli = s.hli ∧ (s.clearPending p r).fre = s.fre ∧ (s.clearPending p r).mgc = s.mgc ∧ (s.clearPending p r).cpm = s.cpm ∧ (s.clearPending p r).acg = s.acg ∧ (s.clearPending p r).dvq = s.dvq ∧ (s.clearPending p r).spc = s.spc ∧ (s.clearPending p r).msb = s.msb ∧ (s.clearPending p r).fnu = s.fnu ∧ (s.clearPending p r).mgu = s.mgu ∧ (s.clearPending p r).hostOut = s.hostOut ∧ (s.clearPending p r).shelfOut = s.shelfOut ∧ (s.clearPending p r).responses = s.responses ∧ (s.clearPending p r).freeCount = s.freeCount := by
  simp only [State.clearPending]
  (repeat' split) <;> simp

/-- What `divert` leaves unchanged. -/
@[simp] theorem State.divert_keeps (s : State) (e : Nat) (c : Command) :
    (s.divert e c).pending = s.pending ∧ (s.divert e c).resetn = s.resetn ∧ (s.divert e c).lmu = s.lmu ∧ (s.divert e c).hli = s.hli ∧ (s.divert e c).cau = s.cau ∧ (s.divert e c).mgc = s.mgc ∧ (s.divert e c).cpm = s.cpm ∧ (s.divert e c).acg = s.acg ∧ (s.divert e c).spc = s.spc ∧ (s.divert e c).msb = s.msb ∧ (s.divert e c).mgu = s.mgu ∧ (s.divert e c).shelfOut = s.shelfOut ∧ (s.divert e c).responses = s.responses ∧ (s.divert e c).freeCount = s.freeCount := by
  simp only [State.divert]
  (repeat' split) <;> simp

/-- What `freeDiversion` leaves unchanged. -/
@[simp] theorem State.freeDiversion_keeps (s : State) (n : Nat) :
    (s.freeDiversion n).pending = s.pending ∧ (s.freeDiversion n).resetn = s.resetn ∧ (s.freeDiversion n).lmu = s.lmu ∧ (s.freeDiversion n).hli = s.hli ∧ (s.freeDiversion n).cau = s.cau ∧ (s.freeDiversion n).fre = s.fre ∧ (s.freeDiversion n).mgc = s.mgc ∧ (s.freeDiversion n).cpm = s.cpm ∧ (s.freeDiversion n).acg = s.acg ∧ (s.freeDiversion n).spc = s.spc ∧ (s.freeDiversion n).msb = s.msb ∧ (s.freeDiversion n).fnu = s.fnu ∧ (s.freeDiversion n).mgu = s.mgu ∧ (s.freeDiversion n).hostOut = s.hostOut ∧ (s.freeDiversion n).shelfOut = s.shelfOut ∧ (s.freeDiversion n).responses = s.responses ∧ (s.freeDiversion n).freeCount = s.freeCount := by
  simp only [State.freeDiversion]
  simp

/-- What `park` leaves unchanged. -/
@[simp] theorem State.park_keeps (s : State) (e : Nat) (c : Command) (i : Option Nat) :
    (s.park e c i).pending = s.pending ∧ (s.park e c i).resetn = s.resetn ∧ (s.park e c i).lmu = s.lmu ∧ (s.park e c i).hli = s.hli ∧ (s.park e c i).cau = s.cau ∧ (s.park e c i).cpm = s.cpm ∧ (s.park e c i).acg = s.acg ∧ (s.park e c i).dvq = s.dvq ∧ (s.park e c i).spc = s.spc ∧ (s.park e c i).msb = s.msb ∧ (s.park e c i).mgu = s.mgu ∧ (s.park e c i).shelfOut = s.shelfOut ∧ (s.park e c i).responses = s.responses ∧ (s.park e c i).freeCount = s.freeCount := by
  simp only [State.park]
  (repeat' split) <;> simp

/-- What `check9` leaves unchanged. -/
@[simp] theorem State.check9_keeps (s : State) (e : Nat) (c : Command) :
    (s.check9 e c).pending = s.pending ∧ (s.check9 e c).resetn = s.resetn ∧ (s.check9 e c).lmu = s.lmu ∧ (s.check9 e c).hli = s.hli ∧ (s.check9 e c).cpm = s.cpm ∧ (s.check9 e c).dvq = s.dvq ∧ (s.check9 e c).spc = s.spc ∧ (s.check9 e c).msb = s.msb ∧ (s.check9 e c).fnu = s.fnu ∧ (s.check9 e c).responses = s.responses := by
  simp only [State.check9]
  (repeat' split) <;> simp

/-- The state that check 8 leaves, stopped or going on. -/
def HoldResult.state : HoldResult → State
  | .stopped t => t
  | .goOn t => t

@[simp] theorem HoldResult.state_stopped (t : State) : (HoldResult.stopped t).state = t := rfl
@[simp] theorem HoldResult.state_goOn (t : State) : (HoldResult.goOn t).state = t := rfl

/-- What `holdZeroing` leaves unchanged. -/
@[simp] theorem State.holdZeroing_keeps (s : State) (e : Nat) (c : Command) (x j : Nat) :
    ((s.holdZeroing e c x j).state).pending = s.pending ∧ ((s.holdZeroing e c x j).state).resetn = s.resetn ∧ ((s.holdZeroing e c x j).state).lmu = s.lmu ∧ ((s.holdZeroing e c x j).state).hli = s.hli ∧ ((s.holdZeroing e c x j).state).cau = s.cau ∧ ((s.holdZeroing e c x j).state).cpm = s.cpm ∧ ((s.holdZeroing e c x j).state).acg = s.acg ∧ ((s.holdZeroing e c x j).state).dvq = s.dvq ∧ ((s.holdZeroing e c x j).state).spc = s.spc ∧ ((s.holdZeroing e c x j).state).msb = s.msb ∧ ((s.holdZeroing e c x j).state).mgu = s.mgu ∧ ((s.holdZeroing e c x j).state).shelfOut = s.shelfOut ∧ ((s.holdZeroing e c x j).state).responses = s.responses ∧ ((s.holdZeroing e c x j).state).freeCount = s.freeCount := by
  simp only [State.holdZeroing]
  (repeat' split) <;> simp

/-- What `holdExtent` leaves unchanged. -/
@[simp] theorem State.holdExtent_keeps (s : State) (e : Nat) (c : Command) (v x j : Nat) :
    ((s.holdExtent e c v x j).state).pending = s.pending ∧ ((s.holdExtent e c v x j).state).resetn = s.resetn ∧ ((s.holdExtent e c v x j).state).hli = s.hli ∧ ((s.holdExtent e c v x j).state).cau = s.cau ∧ ((s.holdExtent e c v x j).state).cpm = s.cpm ∧ ((s.holdExtent e c v x j).state).acg = s.acg ∧ ((s.holdExtent e c v x j).state).dvq = s.dvq ∧ ((s.holdExtent e c v x j).state).spc = s.spc ∧ ((s.holdExtent e c v x j).state).mgu = s.mgu ∧ ((s.holdExtent e c v x j).state).shelfOut = s.shelfOut ∧ ((s.holdExtent e c v x j).state).responses = s.responses ∧ ((s.holdExtent e c v x j).state).freeCount = s.freeCount := by
  simp only [State.holdExtent]
  (repeat' split) <;> simp

/-- What `holdExtents` leaves unchanged. -/
@[simp] theorem State.holdExtents_keeps (s : State) (e : Nat) (c : Command) (v b : Nat) (xs : List Nat) :
    ((s.holdExtents e c v b xs).state).pending = s.pending ∧ ((s.holdExtents e c v b xs).state).resetn = s.resetn ∧ ((s.holdExtents e c v b xs).state).hli = s.hli ∧ ((s.holdExtents e c v b xs).state).cau = s.cau ∧ ((s.holdExtents e c v b xs).state).cpm = s.cpm ∧ ((s.holdExtents e c v b xs).state).acg = s.acg ∧ ((s.holdExtents e c v b xs).state).dvq = s.dvq ∧ ((s.holdExtents e c v b xs).state).spc = s.spc ∧ ((s.holdExtents e c v b xs).state).mgu = s.mgu ∧ ((s.holdExtents e c v b xs).state).shelfOut = s.shelfOut ∧ ((s.holdExtents e c v b xs).state).responses = s.responses ∧ ((s.holdExtents e c v b xs).state).freeCount = s.freeCount := by
  induction xs generalizing s with
  | nil => simp [State.holdExtents]
  | cons x xs ih =>
    have h := s.holdExtent_keeps e c v x (b + x)
    simp only [State.holdExtents]
    split
    · next t ht => rw [ht] at h; simpa using h
    · next t ht => rw [ht] at h; simpa [ih] using h

/-- What `check8` leaves unchanged. -/
@[simp] theorem State.check8_keeps (s : State) (e : Nat) (c : Command) :
    (s.check8 e c).pending = s.pending ∧ (s.check8 e c).resetn = s.resetn ∧ (s.check8 e c).hli = s.hli ∧ (s.check8 e c).cpm = s.cpm ∧ (s.check8 e c).dvq = s.dvq ∧ (s.check8 e c).spc = s.spc ∧ (s.check8 e c).responses = s.responses := by
  simp only [State.check8]
  split
  · split
    · next t ht => have h2 := congrArg HoldResult.state ht; simp only [HoldResult.state_stopped] at h2; subst h2; simp
    · next t ht => have h2 := congrArg HoldResult.state ht; simp only [HoldResult.state_goOn] at h2; subst h2; simp
  · simp

/-- What `checkData` leaves unchanged. -/
@[simp] theorem State.checkData_keeps (s : State) (e : Nat) (c : Command) :
    (s.checkData e c).pending = s.pending ∧ (s.checkData e c).resetn = s.resetn ∧ (s.checkData e c).hli = s.hli ∧ (s.checkData e c).cpm = s.cpm ∧ (s.checkData e c).spc = s.spc ∧ (s.checkData e c).responses = s.responses := by
  simp only [State.checkData]
  (repeat' split) <;> simp

/-- What `runChecks` leaves unchanged. -/
@[simp] theorem State.runChecks_keeps (s : State) (e : Nat) (p : HostPort) (r : CommandRecord) :
    (s.runChecks e p r).pending = s.pending ∧ (s.runChecks e p r).resetn = s.resetn ∧ (s.runChecks e p r).hli = s.hli ∧ (s.runChecks e p r).cpm = s.cpm ∧ (s.runChecks e p r).spc = s.spc ∧ (s.runChecks e p r).responses = s.responses := by
  simp only [State.runChecks]
  (repeat' split) <;> simp

/-- What `takeHead` leaves unchanged. -/
@[simp] theorem State.takeHead_keeps (s : State) (p : HostPort) :
    (s.takeHead p).pending = s.pending ∧ (s.takeHead p).resetn = s.resetn ∧ (s.takeHead p).spc = s.spc ∧ (s.takeHead p).responses = s.responses := by
  simp only [State.takeHead]
  (repeat' split) <;> simp

/-- What `serve` leaves unchanged. -/
@[simp] theorem State.serve_keeps (s : State) :
    (s.serve).pending = s.pending ∧ (s.serve).resetn = s.resetn ∧ (s.serve).hli = s.hli ∧ (s.serve).dvq = s.dvq ∧ (s.serve).spc = s.spc ∧ (s.serve).responses = s.responses := by
  simp only [State.serve]
  (repeat' split) <;> simp

/-- What `freeLane` leaves unchanged. -/
@[simp] theorem State.freeLane_keeps (s : State) (l : Nat) :
    (s.freeLane l).pending = s.pending ∧ (s.freeLane l).resetn = s.resetn ∧ (s.freeLane l).lmu = s.lmu ∧ (s.freeLane l).hli = s.hli ∧ (s.freeLane l).cau = s.cau ∧ (s.freeLane l).fre = s.fre ∧ (s.freeLane l).mgc = s.mgc ∧ (s.freeLane l).acg = s.acg ∧ (s.freeLane l).dvq = s.dvq ∧ (s.freeLane l).spc = s.spc ∧ (s.freeLane l).msb = s.msb ∧ (s.freeLane l).fnu = s.fnu ∧ (s.freeLane l).mgu = s.mgu ∧ (s.freeLane l).hostOut = s.hostOut ∧ (s.freeLane l).shelfOut = s.shelfOut ∧ (s.freeLane l).responses = s.responses ∧ (s.freeLane l).freeCount = s.freeCount := by
  simp only [State.freeLane]
  simp

/-- What `issuePiece` leaves unchanged. -/
@[simp] theorem State.issuePiece_keeps (s : State) (l : Nat) (ph : Phase) (j u : Nat) (pl : Place) :
    (s.issuePiece l ph j u pl).pending = s.pending ∧ (s.issuePiece l ph j u pl).resetn = s.resetn ∧ (s.issuePiece l ph j u pl).lmu = s.lmu ∧ (s.issuePiece l ph j u pl).hli = s.hli ∧ (s.issuePiece l ph j u pl).cau = s.cau ∧ (s.issuePiece l ph j u pl).fre = s.fre ∧ (s.issuePiece l ph j u pl).mgc = s.mgc ∧ (s.issuePiece l ph j u pl).dvq = s.dvq ∧ (s.issuePiece l ph j u pl).spc = s.spc ∧ (s.issuePiece l ph j u pl).msb = s.msb ∧ (s.issuePiece l ph j u pl).fnu = s.fnu ∧ (s.issuePiece l ph j u pl).mgu = s.mgu ∧ (s.issuePiece l ph j u pl).hostOut = s.hostOut ∧ (s.issuePiece l ph j u pl).responses = s.responses ∧ (s.issuePiece l ph j u pl).freeCount = s.freeCount := by
  simp only [State.issuePiece]
  (repeat' split) <;> simp

/-- What `issuePhase` leaves unchanged. -/
@[simp] theorem State.issuePhase_keeps (s : State) (l : Nat) (ph : Phase) (a : Loc) (k : Nat) :
    (s.issuePhase l ph a k).pending = s.pending ∧ (s.issuePhase l ph a k).resetn = s.resetn ∧ (s.issuePhase l ph a k).lmu = s.lmu ∧ (s.issuePhase l ph a k).hli = s.hli ∧ (s.issuePhase l ph a k).cau = s.cau ∧ (s.issuePhase l ph a k).fre = s.fre ∧ (s.issuePhase l ph a k).mgc = s.mgc ∧ (s.issuePhase l ph a k).dvq = s.dvq ∧ (s.issuePhase l ph a k).spc = s.spc ∧ (s.issuePhase l ph a k).msb = s.msb ∧ (s.issuePhase l ph a k).fnu = s.fnu ∧ (s.issuePhase l ph a k).mgu = s.mgu ∧ (s.issuePhase l ph a k).hostOut = s.hostOut ∧ (s.issuePhase l ph a k).responses = s.responses ∧ (s.issuePhase l ph a k).freeCount = s.freeCount := by
  simp only [State.issuePhase]
  simp

/-- What `startCopy` leaves unchanged. -/
@[simp] theorem State.startCopy_keeps (s : State) (l : Nat) (o : LaneOp) (k : Nat) (a : Option Loc) (b : Loc) :
    (s.startCopy l o k a b).pending = s.pending ∧ (s.startCopy l o k a b).resetn = s.resetn ∧ (s.startCopy l o k a b).lmu = s.lmu ∧ (s.startCopy l o k a b).hli = s.hli ∧ (s.startCopy l o k a b).cau = s.cau ∧ (s.startCopy l o k a b).fre = s.fre ∧ (s.startCopy l o k a b).mgc = s.mgc ∧ (s.startCopy l o k a b).dvq = s.dvq ∧ (s.startCopy l o k a b).spc = s.spc ∧ (s.startCopy l o k a b).msb = s.msb ∧ (s.startCopy l o k a b).fnu = s.fnu ∧ (s.startCopy l o k a b).mgu = s.mgu ∧ (s.startCopy l o k a b).hostOut = s.hostOut ∧ (s.startCopy l o k a b).responses = s.responses ∧ (s.startCopy l o k a b).freeCount = s.freeCount := by
  simp only [State.startCopy]
  (repeat' split) <;> simp

/-- What `laneDrained` leaves unchanged. -/
@[simp] theorem State.laneDrained_keeps (s : State) (l : Nat) :
    (s.laneDrained l).pending = s.pending ∧ (s.laneDrained l).resetn = s.resetn ∧ (s.laneDrained l).lmu = s.lmu ∧ (s.laneDrained l).hli = s.hli ∧ (s.laneDrained l).cau = s.cau ∧ (s.laneDrained l).fre = s.fre ∧ (s.laneDrained l).mgc = s.mgc ∧ (s.laneDrained l).dvq = s.dvq ∧ (s.laneDrained l).spc = s.spc ∧ (s.laneDrained l).msb = s.msb ∧ (s.laneDrained l).fnu = s.fnu ∧ (s.laneDrained l).mgu = s.mgu ∧ (s.laneDrained l).hostOut = s.hostOut ∧ (s.laneDrained l).responses = s.responses ∧ (s.laneDrained l).freeCount = s.freeCount := by
  simp only [State.laneDrained]
  (repeat' split) <;> simp

/-- What `completeLaneFrag` leaves unchanged. -/
@[simp] theorem State.completeLaneFrag_keeps (s : State) (l : Nat) (f : LaneFrag) (o : FragOutcome) (d : List Block) :
    (s.completeLaneFrag l f o d).pending = s.pending ∧ (s.completeLaneFrag l f o d).resetn = s.resetn ∧ (s.completeLaneFrag l f o d).lmu = s.lmu ∧ (s.completeLaneFrag l f o d).hli = s.hli ∧ (s.completeLaneFrag l f o d).cau = s.cau ∧ (s.completeLaneFrag l f o d).fre = s.fre ∧ (s.completeLaneFrag l f o d).mgc = s.mgc ∧ (s.completeLaneFrag l f o d).dvq = s.dvq ∧ (s.completeLaneFrag l f o d).spc = s.spc ∧ (s.completeLaneFrag l f o d).msb = s.msb ∧ (s.completeLaneFrag l f o d).fnu = s.fnu ∧ (s.completeLaneFrag l f o d).mgu = s.mgu ∧ (s.completeLaneFrag l f o d).hostOut = s.hostOut ∧ (s.completeLaneFrag l f o d).responses = s.responses := by
  simp only [State.completeLaneFrag]
  (repeat' split) <;> simp

/-- What `grant` leaves unchanged. -/
@[simp] theorem State.grant_keeps (s : State) :
    (s.grant).pending = s.pending ∧ (s.grant).resetn = s.resetn ∧ (s.grant).lmu = s.lmu ∧ (s.grant).hli = s.hli ∧ (s.grant).cau = s.cau ∧ (s.grant).fre = s.fre ∧ (s.grant).mgc = s.mgc ∧ (s.grant).acg = s.acg ∧ (s.grant).dvq = s.dvq ∧ (s.grant).spc = s.spc ∧ (s.grant).msb = s.msb ∧ (s.grant).fnu = s.fnu ∧ (s.grant).mgu = s.mgu ∧ (s.grant).hostOut = s.hostOut ∧ (s.grant).shelfOut = s.shelfOut ∧ (s.grant).responses = s.responses ∧ (s.grant).freeCount = s.freeCount := by
  simp only [State.grant]
  (repeat' split) <;> simp

/-- What `takeGrant` leaves unchanged. -/
@[simp] theorem State.takeGrant_keeps (s : State) (i : Nat) :
    (s.takeGrant i).pending = s.pending ∧ (s.takeGrant i).resetn = s.resetn ∧ (s.takeGrant i).hli = s.hli ∧ (s.takeGrant i).cau = s.cau ∧ (s.takeGrant i).dvq = s.dvq ∧ (s.takeGrant i).spc = s.spc ∧ (s.takeGrant i).mgu = s.mgu ∧ (s.takeGrant i).hostOut = s.hostOut ∧ (s.takeGrant i).responses = s.responses := by
  simp only [State.takeGrant]
  (repeat' split) <;> simp

/-- What `takeCompletion` leaves unchanged. -/
@[simp] theorem State.takeCompletion_keeps (s : State) (l : Nat) :
    (s.takeCompletion l).pending = s.pending ∧ (s.takeCompletion l).resetn = s.resetn ∧ (s.takeCompletion l).hli = s.hli ∧ (s.takeCompletion l).cau = s.cau ∧ (s.takeCompletion l).dvq = s.dvq ∧ (s.takeCompletion l).spc = s.spc ∧ (s.takeCompletion l).mgu = s.mgu ∧ (s.takeCompletion l).hostOut = s.hostOut ∧ (s.takeCompletion l).responses = s.responses := by
  simp only [State.takeCompletion]
  (repeat' split) <;> simp

/-- What `stopLane` leaves unchanged. -/
@[simp] theorem State.stopLane_keeps (s : State) (l : Nat) :
    (s.stopLane l).pending = s.pending ∧ (s.stopLane l).resetn = s.resetn ∧ (s.stopLane l).lmu = s.lmu ∧ (s.stopLane l).hli = s.hli ∧ (s.stopLane l).cau = s.cau ∧ (s.stopLane l).fre = s.fre ∧ (s.stopLane l).mgc = s.mgc ∧ (s.stopLane l).dvq = s.dvq ∧ (s.stopLane l).spc = s.spc ∧ (s.stopLane l).msb = s.msb ∧ (s.stopLane l).fnu = s.fnu ∧ (s.stopLane l).mgu = s.mgu ∧ (s.stopLane l).hostOut = s.hostOut ∧ (s.stopLane l).responses = s.responses ∧ (s.stopLane l).freeCount = s.freeCount := by
  simp only [State.stopLane]
  (repeat' split) <;> simp

/-- What `enter` leaves unchanged. -/
@[simp] theorem State.enter_keeps (s : State) (p : Nat) (x : Port) :
    (s.enter p x).pending = s.pending ∧ (s.enter p x).resetn = s.resetn ∧ (s.enter p x).lmu = s.lmu ∧ (s.enter p x).hli = s.hli ∧ (s.enter p x).cau = s.cau ∧ (s.enter p x).fre = s.fre ∧ (s.enter p x).mgc = s.mgc ∧ (s.enter p x).cpm = s.cpm ∧ (s.enter p x).acg = s.acg ∧ (s.enter p x).dvq = s.dvq ∧ (s.enter p x).msb = s.msb ∧ (s.enter p x).mgu = s.mgu ∧ (s.enter p x).hostOut = s.hostOut ∧ (s.enter p x).shelfOut = s.shelfOut ∧ (s.enter p x).responses = s.responses ∧ (s.enter p x).freeCount = s.freeCount := by
  simp only [State.enter]
  simp

/-- What `failHost` leaves unchanged. -/
@[simp] theorem State.failHost_keeps (s : State) (p : Nat) (q : Option Nat → Bool) :
    (s.failHost p q).pending = s.pending ∧ (s.failHost p q).resetn = s.resetn ∧ (s.failHost p q).lmu = s.lmu ∧ (s.failHost p q).hli = s.hli ∧ (s.failHost p q).cau = s.cau ∧ (s.failHost p q).cpm = s.cpm ∧ (s.failHost p q).acg = s.acg ∧ (s.failHost p q).dvq = s.dvq ∧ (s.failHost p q).spc = s.spc ∧ (s.failHost p q).msb = s.msb ∧ (s.failHost p q).fnu = s.fnu ∧ (s.failHost p q).mgu = s.mgu ∧ (s.failHost p q).shelfOut = s.shelfOut ∧ (s.failHost p q).responses = s.responses := by
  simp only [State.failHost]
  simp

/-- What `failLane` leaves unchanged. -/
@[simp] theorem State.failLane_keeps (s : State) (p : Nat) (q : Option Nat → Bool) (l : Nat) :
    (s.failLane p q l).pending = s.pending ∧ (s.failLane p q l).resetn = s.resetn ∧ (s.failLane p q l).lmu = s.lmu ∧ (s.failLane p q l).hli = s.hli ∧ (s.failLane p q l).cau = s.cau ∧ (s.failLane p q l).fre = s.fre ∧ (s.failLane p q l).mgc = s.mgc ∧ (s.failLane p q l).dvq = s.dvq ∧ (s.failLane p q l).spc = s.spc ∧ (s.failLane p q l).msb = s.msb ∧ (s.failLane p q l).fnu = s.fnu ∧ (s.failLane p q l).mgu = s.mgu ∧ (s.failLane p q l).hostOut = s.hostOut ∧ (s.failLane p q l).responses = s.responses := by
  simp only [State.failLane]
  simp

/-- What `completeFlush` leaves unchanged. -/
@[simp] theorem State.completeFlush_keeps (s : State) (f : FlushFrag) (o : FragOutcome) :
    (s.completeFlush f o).pending = s.pending ∧ (s.completeFlush f o).resetn = s.resetn ∧ (s.completeFlush f o).hli = s.hli ∧ (s.completeFlush f o).cau = s.cau ∧ (s.completeFlush f o).acg = s.acg ∧ (s.completeFlush f o).dvq = s.dvq ∧ (s.completeFlush f o).spc = s.spc ∧ (s.completeFlush f o).fnu = s.fnu ∧ (s.completeFlush f o).mgu = s.mgu ∧ (s.completeFlush f o).hostOut = s.hostOut ∧ (s.completeFlush f o).shelfOut = s.shelfOut ∧ (s.completeFlush f o).responses = s.responses ∧ (s.completeFlush f o).freeCount = s.freeCount := by
  simp only [State.completeFlush]
  simp

/-- What `loseFlush` leaves unchanged. -/
@[simp] theorem State.loseFlush_keeps (s : State) (f : FlushFrag) :
    (s.loseFlush f).pending = s.pending ∧ (s.loseFlush f).resetn = s.resetn ∧ (s.loseFlush f).hli = s.hli ∧ (s.loseFlush f).cau = s.cau ∧ (s.loseFlush f).acg = s.acg ∧ (s.loseFlush f).dvq = s.dvq ∧ (s.loseFlush f).spc = s.spc ∧ (s.loseFlush f).fnu = s.fnu ∧ (s.loseFlush f).mgu = s.mgu ∧ (s.loseFlush f).hostOut = s.hostOut ∧ (s.loseFlush f).shelfOut = s.shelfOut ∧ (s.loseFlush f).responses = s.responses := by
  simp only [State.loseFlush]
  (repeat' split) <;> simp

/-- What `failFlush` leaves unchanged. -/
@[simp] theorem State.failFlush_keeps (s : State) (p : Nat) :
    (s.failFlush p).pending = s.pending ∧ (s.failFlush p).resetn = s.resetn ∧ (s.failFlush p).hli = s.hli ∧ (s.failFlush p).cau = s.cau ∧ (s.failFlush p).acg = s.acg ∧ (s.failFlush p).dvq = s.dvq ∧ (s.failFlush p).spc = s.spc ∧ (s.failFlush p).fnu = s.fnu ∧ (s.failFlush p).mgu = s.mgu ∧ (s.failFlush p).hostOut = s.hostOut ∧ (s.failFlush p).shelfOut = s.shelfOut ∧ (s.failFlush p).responses = s.responses := by
  simp only [State.failFlush]
  simp

/-- What `absentDrives` leaves unchanged. -/
@[simp] theorem State.absentDrives_keeps (s : State) (p : Nat) :
    (s.absentDrives p).pending = s.pending ∧ (s.absentDrives p).resetn = s.resetn ∧ (s.absentDrives p).lmu = s.lmu ∧ (s.absentDrives p).hli = s.hli ∧ (s.absentDrives p).cau = s.cau ∧ (s.absentDrives p).fre = s.fre ∧ (s.absentDrives p).mgc = s.mgc ∧ (s.absentDrives p).cpm = s.cpm ∧ (s.absentDrives p).acg = s.acg ∧ (s.absentDrives p).dvq = s.dvq ∧ (s.absentDrives p).msb = s.msb ∧ (s.absentDrives p).fnu = s.fnu ∧ (s.absentDrives p).mgu = s.mgu ∧ (s.absentDrives p).hostOut = s.hostOut ∧ (s.absentDrives p).shelfOut = s.shelfOut ∧ (s.absentDrives p).responses = s.responses ∧ (s.absentDrives p).freeCount = s.freeCount := by
  simp only [State.absentDrives]
  simp

/-- What `tellExit` leaves unchanged. -/
@[simp] theorem State.tellExit_keeps (s : State) (p : Nat) :
    (s.tellExit p).pending = s.pending ∧ (s.tellExit p).resetn = s.resetn ∧ (s.tellExit p).lmu = s.lmu ∧ (s.tellExit p).hli = s.hli ∧ (s.tellExit p).cau = s.cau ∧ (s.tellExit p).fre = s.fre ∧ (s.tellExit p).cpm = s.cpm ∧ (s.tellExit p).acg = s.acg ∧ (s.tellExit p).dvq = s.dvq ∧ (s.tellExit p).spc = s.spc ∧ (s.tellExit p).msb = s.msb ∧ (s.tellExit p).fnu = s.fnu ∧ (s.tellExit p).mgu = s.mgu ∧ (s.tellExit p).hostOut = s.hostOut ∧ (s.tellExit p).shelfOut = s.shelfOut ∧ (s.tellExit p).responses = s.responses ∧ (s.tellExit p).freeCount = s.freeCount := by
  simp only [State.tellExit]
  simp

/-- What `leaveEffects` leaves unchanged. -/
@[simp] theorem State.leaveEffects_keeps (s : State) (p : Nat) :
    (s.leaveEffects p).pending = s.pending ∧ (s.leaveEffects p).resetn = s.resetn ∧ (s.leaveEffects p).hli = s.hli ∧ (s.leaveEffects p).cau = s.cau ∧ (s.leaveEffects p).dvq = s.dvq ∧ (s.leaveEffects p).fnu = s.fnu ∧ (s.leaveEffects p).mgu = s.mgu ∧ (s.leaveEffects p).responses = s.responses := by
  simp only [State.leaveEffects]
  simp

/-- What `move` leaves unchanged. -/
@[simp] theorem State.move_keeps (s : State) (p : Nat) (x : Port) :
    (s.move p x).pending = s.pending ∧ (s.move p x).resetn = s.resetn ∧ (s.move p x).hli = s.hli ∧ (s.move p x).cau = s.cau ∧ (s.move p x).dvq = s.dvq ∧ (s.move p x).mgu = s.mgu ∧ (s.move p x).responses = s.responses := by
  simp only [State.move]
  (repeat' split) <;> simp

/-- What `trip` leaves unchanged. -/
@[simp] theorem State.trip_keeps (s : State) (p : Nat) :
    (s.trip p).pending = s.pending ∧ (s.trip p).resetn = s.resetn ∧ (s.trip p).hli = s.hli ∧ (s.trip p).cau = s.cau ∧ (s.trip p).dvq = s.dvq ∧ (s.trip p).mgu = s.mgu ∧ (s.trip p).responses = s.responses := by
  simp only [State.trip]
  (repeat' split) <;> simp

/-- What `repower` leaves unchanged. -/
@[simp] theorem State.repower_keeps (s : State) (p : Nat) :
    (s.repower p).pending = s.pending ∧ (s.repower p).resetn = s.resetn ∧ (s.repower p).hli = s.hli ∧ (s.repower p).cau = s.cau ∧ (s.repower p).dvq = s.dvq ∧ (s.repower p).mgu = s.mgu ∧ (s.repower p).responses = s.responses := by
  simp only [State.repower]
  (repeat' split) <;> simp

/-- What `repowerAll` leaves unchanged. -/
@[simp] theorem State.repowerAll_keeps (s : State) :
    (s.repowerAll).pending = s.pending ∧ (s.repowerAll).resetn = s.resetn ∧ (s.repowerAll).hli = s.hli ∧ (s.repowerAll).cau = s.cau ∧ (s.repowerAll).dvq = s.dvq ∧ (s.repowerAll).mgu = s.mgu ∧ (s.repowerAll).responses = s.responses := by
  simp only [State.repowerAll]
  simp

/-- What `clearLatch` leaves unchanged. -/
@[simp] theorem State.clearLatch_keeps (s : State) (p : Nat) :
    (s.clearLatch p).pending = s.pending ∧ (s.clearLatch p).resetn = s.resetn ∧ (s.clearLatch p).lmu = s.lmu ∧ (s.clearLatch p).hli = s.hli ∧ (s.clearLatch p).cau = s.cau ∧ (s.clearLatch p).fre = s.fre ∧ (s.clearLatch p).mgc = s.mgc ∧ (s.clearLatch p).cpm = s.cpm ∧ (s.clearLatch p).acg = s.acg ∧ (s.clearLatch p).dvq = s.dvq ∧ (s.clearLatch p).msb = s.msb ∧ (s.clearLatch p).fnu = s.fnu ∧ (s.clearLatch p).mgu = s.mgu ∧ (s.clearLatch p).hostOut = s.hostOut ∧ (s.clearLatch p).shelfOut = s.shelfOut ∧ (s.clearLatch p).responses = s.responses ∧ (s.clearLatch p).freeCount = s.freeCount := by
  simp only [State.clearLatch]
  simp

/-- What `slotChange` leaves unchanged. -/
@[simp] theorem State.slotChange_keeps (s : State) (p d : Nat) (e : SlotEntry) :
    (s.slotChange p d e).pending = s.pending ∧ (s.slotChange p d e).resetn = s.resetn ∧ (s.slotChange p d e).lmu = s.lmu ∧ (s.slotChange p d e).hli = s.hli ∧ (s.slotChange p d e).cau = s.cau ∧ (s.slotChange p d e).dvq = s.dvq ∧ (s.slotChange p d e).msb = s.msb ∧ (s.slotChange p d e).mgu = s.mgu ∧ (s.slotChange p d e).responses = s.responses := by
  simp only [State.slotChange]
  (repeat' split) <;> simp

/-- What `slotChanges` leaves unchanged. -/
@[simp] theorem State.slotChanges_keeps (s : State) (p d : Nat) (es : List SlotEntry) :
    (s.slotChanges p d es).pending = s.pending ∧ (s.slotChanges p d es).resetn = s.resetn ∧ (s.slotChanges p d es).lmu = s.lmu ∧ (s.slotChanges p d es).hli = s.hli ∧ (s.slotChanges p d es).cau = s.cau ∧ (s.slotChanges p d es).dvq = s.dvq ∧ (s.slotChanges p d es).msb = s.msb ∧ (s.slotChanges p d es).mgu = s.mgu ∧ (s.slotChanges p d es).responses = s.responses := by
  induction es generalizing s d with
  | nil => simp [State.slotChanges]
  | cons a l ih =>
    simp only [State.slotChanges]
    simp [ih]

/-- What `takeInventory` leaves unchanged. -/
@[simp] theorem State.takeInventory_keeps (s : State) (p d : Nat) (es : List SlotEntry) :
    (s.takeInventory p d es).pending = s.pending ∧ (s.takeInventory p d es).resetn = s.resetn ∧ (s.takeInventory p d es).lmu = s.lmu ∧ (s.takeInventory p d es).hli = s.hli ∧ (s.takeInventory p d es).cau = s.cau ∧ (s.takeInventory p d es).fre = s.fre ∧ (s.takeInventory p d es).mgc = s.mgc ∧ (s.takeInventory p d es).cpm = s.cpm ∧ (s.takeInventory p d es).acg = s.acg ∧ (s.takeInventory p d es).dvq = s.dvq ∧ (s.takeInventory p d es).msb = s.msb ∧ (s.takeInventory p d es).fnu = s.fnu ∧ (s.takeInventory p d es).mgu = s.mgu ∧ (s.takeInventory p d es).hostOut = s.hostOut ∧ (s.takeInventory p d es).shelfOut = s.shelfOut ∧ (s.takeInventory p d es).responses = s.responses ∧ (s.takeInventory p d es).freeCount = s.freeCount := by
  induction es generalizing s d with
  | nil => simp [State.takeInventory]
  | cons a l ih =>
    simp only [State.takeInventory]
    simp [ih]

/-- What `takeRecord` leaves unchanged. -/
@[simp] theorem State.takeRecord_keeps (s : State) (p : Nat) (r : CompletionRecord) :
    (s.takeRecord p r).pending = s.pending ∧ (s.takeRecord p r).resetn = s.resetn ∧ (s.takeRecord p r).hli = s.hli ∧ (s.takeRecord p r).cau = s.cau ∧ (s.takeRecord p r).dvq = s.dvq ∧ (s.takeRecord p r).spc = s.spc ∧ (s.takeRecord p r).fnu = s.fnu ∧ (s.takeRecord p r).mgu = s.mgu ∧ (s.takeRecord p r).responses = s.responses := by
  simp only [State.takeRecord]
  (repeat' split) <;> simp

/-- What `answerRequest` leaves unchanged. -/
@[simp] theorem State.answerRequest_keeps (s : State) (c : BitVec 16) (r : Reply) :
    (s.answerRequest c r).pending = s.pending ∧ (s.answerRequest c r).resetn = s.resetn ∧ (s.answerRequest c r).lmu = s.lmu ∧ (s.answerRequest c r).hli = s.hli ∧ (s.answerRequest c r).cau = s.cau ∧ (s.answerRequest c r).mgc = s.mgc ∧ (s.answerRequest c r).cpm = s.cpm ∧ (s.answerRequest c r).acg = s.acg ∧ (s.answerRequest c r).dvq = s.dvq ∧ (s.answerRequest c r).spc = s.spc ∧ (s.answerRequest c r).msb = s.msb ∧ (s.answerRequest c r).fnu = s.fnu ∧ (s.answerRequest c r).shelfOut = s.shelfOut ∧ (s.answerRequest c r).freeCount = s.freeCount := by
  simp only [State.answerRequest]
  (repeat' split) <;> simp

/-- What `respond` leaves unchanged. -/
@[simp] theorem State.respond_keeps (s : State) (c : BitVec 16) (r : Reply) :
    (s.respond c r).pending = s.pending ∧ (s.respond c r).resetn = s.resetn ∧ (s.respond c r).lmu = s.lmu ∧ (s.respond c r).hli = s.hli ∧ (s.respond c r).cau = s.cau ∧ (s.respond c r).mgc = s.mgc ∧ (s.respond c r).cpm = s.cpm ∧ (s.respond c r).acg = s.acg ∧ (s.respond c r).dvq = s.dvq ∧ (s.respond c r).spc = s.spc ∧ (s.respond c r).msb = s.msb ∧ (s.respond c r).fnu = s.fnu ∧ (s.respond c r).shelfOut = s.shelfOut ∧ (s.respond c r).freeCount = s.freeCount := by
  simp only [State.respond]
  (repeat' split) <;> simp

/-- What `freeBands` leaves unchanged. -/
@[simp] theorem State.freeBands_keeps (s : State) (g : Nat) :
    (s.freeBands g).pending = s.pending ∧ (s.freeBands g).resetn = s.resetn ∧ (s.freeBands g).hli = s.hli ∧ (s.freeBands g).cau = s.cau ∧ (s.freeBands g).fre = s.fre ∧ (s.freeBands g).mgc = s.mgc ∧ (s.freeBands g).cpm = s.cpm ∧ (s.freeBands g).acg = s.acg ∧ (s.freeBands g).dvq = s.dvq ∧ (s.freeBands g).spc = s.spc ∧ (s.freeBands g).msb = s.msb ∧ (s.freeBands g).fnu = s.fnu ∧ (s.freeBands g).mgu = s.mgu ∧ (s.freeBands g).hostOut = s.hostOut ∧ (s.freeBands g).shelfOut = s.shelfOut ∧ (s.freeBands g).responses = s.responses ∧ (s.freeBands g).freeCount = s.freeCount := by
  simp only [State.freeBands]
  simp

/-- What `repoint` leaves unchanged. -/
@[simp] theorem State.repoint_keeps (s : State) (j : Nat) (l : Loc) :
    (s.repoint j l).pending = s.pending ∧ (s.repoint j l).resetn = s.resetn ∧ (s.repoint j l).hli = s.hli ∧ (s.repoint j l).cau = s.cau ∧ (s.repoint j l).fre = s.fre ∧ (s.repoint j l).mgc = s.mgc ∧ (s.repoint j l).cpm = s.cpm ∧ (s.repoint j l).acg = s.acg ∧ (s.repoint j l).dvq = s.dvq ∧ (s.repoint j l).spc = s.spc ∧ (s.repoint j l).fnu = s.fnu ∧ (s.repoint j l).mgu = s.mgu ∧ (s.repoint j l).hostOut = s.hostOut ∧ (s.repoint j l).shelfOut = s.shelfOut ∧ (s.repoint j l).responses = s.responses ∧ (s.repoint j l).freeCount = s.freeCount := by
  simp only [State.repoint]
  simp

/-- What `setPause` leaves unchanged. -/
@[simp] theorem State.setPause_keeps (s : State) (i : Nat) (v : Bool) :
    (s.setPause i v).pending = s.pending ∧ (s.setPause i v).resetn = s.resetn ∧ (s.setPause i v).lmu = s.lmu ∧ (s.setPause i v).hli = s.hli ∧ (s.setPause i v).cau = s.cau ∧ (s.setPause i v).fre = s.fre ∧ (s.setPause i v).cpm = s.cpm ∧ (s.setPause i v).acg = s.acg ∧ (s.setPause i v).dvq = s.dvq ∧ (s.setPause i v).spc = s.spc ∧ (s.setPause i v).msb = s.msb ∧ (s.setPause i v).fnu = s.fnu ∧ (s.setPause i v).mgu = s.mgu ∧ (s.setPause i v).hostOut = s.hostOut ∧ (s.setPause i v).shelfOut = s.shelfOut ∧ (s.setPause i v).responses = s.responses ∧ (s.setPause i v).freeCount = s.freeCount := by
  simp only [State.setPause]
  simp

/-- What `windowTurns` leaves unchanged. -/
@[simp] theorem State.windowTurns_keeps (s : State) :
    (s.windowTurns).pending = s.pending ∧ (s.windowTurns).resetn = s.resetn ∧ (s.windowTurns).lmu = s.lmu ∧ (s.windowTurns).hli = s.hli ∧ (s.windowTurns).cau = s.cau ∧ (s.windowTurns).fre = s.fre ∧ (s.windowTurns).mgc = s.mgc ∧ (s.windowTurns).cpm = s.cpm ∧ (s.windowTurns).dvq = s.dvq ∧ (s.windowTurns).spc = s.spc ∧ (s.windowTurns).msb = s.msb ∧ (s.windowTurns).fnu = s.fnu ∧ (s.windowTurns).mgu = s.mgu ∧ (s.windowTurns).hostOut = s.hostOut ∧ (s.windowTurns).shelfOut = s.shelfOut ∧ (s.windowTurns).responses = s.responses ∧ (s.windowTurns).freeCount = s.freeCount := by
  simp only [State.windowTurns]
  simp

/-- What `diversionExpires` leaves unchanged. -/
@[simp] theorem State.diversionExpires_keeps (s : State) (n : Nat) :
    (s.diversionExpires n).pending = s.pending ∧ (s.diversionExpires n).resetn = s.resetn ∧ (s.diversionExpires n).lmu = s.lmu ∧ (s.diversionExpires n).hli = s.hli ∧ (s.diversionExpires n).cau = s.cau ∧ (s.diversionExpires n).mgc = s.mgc ∧ (s.diversionExpires n).cpm = s.cpm ∧ (s.diversionExpires n).acg = s.acg ∧ (s.diversionExpires n).spc = s.spc ∧ (s.diversionExpires n).msb = s.msb ∧ (s.diversionExpires n).mgu = s.mgu ∧ (s.diversionExpires n).shelfOut = s.shelfOut ∧ (s.diversionExpires n).responses = s.responses ∧ (s.diversionExpires n).freeCount = s.freeCount := by
  simp only [State.diversionExpires]
  (repeat' split) <;> simp

/-- What `clearLatches` leaves unchanged. -/
@[simp] theorem State.clearLatches_keeps (s : State) (q : Nat → Bool) :
    (s.clearLatches q).pending = s.pending ∧ (s.clearLatches q).resetn = s.resetn ∧ (s.clearLatches q).lmu = s.lmu ∧ (s.clearLatches q).hli = s.hli ∧ (s.clearLatches q).cau = s.cau ∧ (s.clearLatches q).fre = s.fre ∧ (s.clearLatches q).mgc = s.mgc ∧ (s.clearLatches q).cpm = s.cpm ∧ (s.clearLatches q).acg = s.acg ∧ (s.clearLatches q).dvq = s.dvq ∧ (s.clearLatches q).msb = s.msb ∧ (s.clearLatches q).fnu = s.fnu ∧ (s.clearLatches q).mgu = s.mgu ∧ (s.clearLatches q).hostOut = s.hostOut ∧ (s.clearLatches q).shelfOut = s.shelfOut ∧ (s.clearLatches q).responses = s.responses ∧ (s.clearLatches q).freeCount = s.freeCount := by
  simp only [State.clearLatches]
  (repeat' apply And.intro) <;> (first | apply foldl_pending | apply foldl_resetn | apply foldl_lmu | apply foldl_hli | apply foldl_cau | apply foldl_fre | apply foldl_mgc | apply foldl_cpm | apply foldl_acg | apply foldl_dvq | apply foldl_spc | apply foldl_msb | apply foldl_fnu | apply foldl_mgu | apply foldl_hostOut | apply foldl_shelfOut | apply foldl_responses | apply foldl_freeCount) <;> (intro t x; (repeat' split) <;> simp)

/-- What `visitSection` leaves unchanged. -/
@[simp] theorem State.visitSection_keeps (s : State) (k : Nat) :
    (s.visitSection k).pending = s.pending ∧ (s.visitSection k).resetn = s.resetn ∧ (s.visitSection k).lmu = s.lmu ∧ (s.visitSection k).hli = s.hli ∧ (s.visitSection k).cau = s.cau ∧ (s.visitSection k).fre = s.fre ∧ (s.visitSection k).cpm = s.cpm ∧ (s.visitSection k).acg = s.acg ∧ (s.visitSection k).dvq = s.dvq ∧ (s.visitSection k).spc = s.spc ∧ (s.visitSection k).mgu = s.mgu ∧ (s.visitSection k).hostOut = s.hostOut ∧ (s.visitSection k).shelfOut = s.shelfOut ∧ (s.visitSection k).responses = s.responses ∧ (s.visitSection k).freeCount = s.freeCount := by
  simp only [State.visitSection]
  (repeat' split) <;> simp

/-- What `scrubAdvance` leaves unchanged. -/
@[simp] theorem State.scrubAdvance_keeps (s : State) :
    (s.scrubAdvance).pending = s.pending ∧ (s.scrubAdvance).resetn = s.resetn ∧ (s.scrubAdvance).lmu = s.lmu ∧ (s.scrubAdvance).hli = s.hli ∧ (s.scrubAdvance).cau = s.cau ∧ (s.scrubAdvance).fre = s.fre ∧ (s.scrubAdvance).mgc = s.mgc ∧ (s.scrubAdvance).cpm = s.cpm ∧ (s.scrubAdvance).acg = s.acg ∧ (s.scrubAdvance).dvq = s.dvq ∧ (s.scrubAdvance).spc = s.spc ∧ (s.scrubAdvance).fnu = s.fnu ∧ (s.scrubAdvance).mgu = s.mgu ∧ (s.scrubAdvance).hostOut = s.hostOut ∧ (s.scrubAdvance).shelfOut = s.shelfOut ∧ (s.scrubAdvance).responses = s.responses ∧ (s.scrubAdvance).freeCount = s.freeCount := by
  simp only [State.scrubAdvance]
  (repeat' split) <;> simp

/-- What `scrub` leaves unchanged. -/
@[simp] theorem State.scrub_keeps (s : State) :
    (s.scrub).pending = s.pending ∧ (s.scrub).resetn = s.resetn ∧ (s.scrub).lmu = s.lmu ∧ (s.scrub).hli = s.hli ∧ (s.scrub).cau = s.cau ∧ (s.scrub).fre = s.fre ∧ (s.scrub).cpm = s.cpm ∧ (s.scrub).acg = s.acg ∧ (s.scrub).dvq = s.dvq ∧ (s.scrub).spc = s.spc ∧ (s.scrub).mgu = s.mgu ∧ (s.scrub).hostOut = s.hostOut ∧ (s.scrub).shelfOut = s.shelfOut ∧ (s.scrub).responses = s.responses ∧ (s.scrub).freeCount = s.freeCount := by
  simp only [State.scrub]
  (repeat' split) <;> simp

/-- What `arrive` leaves unchanged. -/
@[simp] theorem State.arrive_keeps (s : State) (p : HostPort) (r : CommandRecord) :
    (s.arrive p r).pending = s.pending ∧ (s.arrive p r).resetn = s.resetn ∧ (s.arrive p r).lmu = s.lmu ∧ (s.arrive p r).cau = s.cau ∧ (s.arrive p r).fre = s.fre ∧ (s.arrive p r).mgc = s.mgc ∧ (s.arrive p r).cpm = s.cpm ∧ (s.arrive p r).acg = s.acg ∧ (s.arrive p r).dvq = s.dvq ∧ (s.arrive p r).spc = s.spc ∧ (s.arrive p r).msb = s.msb ∧ (s.arrive p r).fnu = s.fnu ∧ (s.arrive p r).mgu = s.mgu ∧ (s.arrive p r).shelfOut = s.shelfOut ∧ (s.arrive p r).responses = s.responses ∧ (s.arrive p r).freeCount = s.freeCount := by
  simp only [State.arrive]
  (repeat' split) <;> simp

/-- What `unhold` leaves unchanged. -/
@[simp] theorem State.unhold_keeps (s : State) (es : List Nat) :
    (s.unhold es).pending = s.pending ∧ (s.unhold es).resetn = s.resetn ∧ (s.unhold es).lmu = s.lmu ∧ (s.unhold es).hli = s.hli ∧ (s.unhold es).cau = s.cau ∧ (s.unhold es).fre = s.fre ∧ (s.unhold es).cpm = s.cpm ∧ (s.unhold es).acg = s.acg ∧ (s.unhold es).dvq = s.dvq ∧ (s.unhold es).spc = s.spc ∧ (s.unhold es).msb = s.msb ∧ (s.unhold es).fnu = s.fnu ∧ (s.unhold es).mgu = s.mgu ∧ (s.unhold es).hostOut = s.hostOut ∧ (s.unhold es).shelfOut = s.shelfOut ∧ (s.unhold es).responses = s.responses ∧ (s.unhold es).freeCount = s.freeCount := by
  simp only [State.unhold]
  (repeat' apply And.intro) <;> (first | apply foldl_pending | apply foldl_resetn | apply foldl_lmu | apply foldl_hli | apply foldl_cau | apply foldl_fre | apply foldl_mgc | apply foldl_cpm | apply foldl_acg | apply foldl_dvq | apply foldl_spc | apply foldl_msb | apply foldl_fnu | apply foldl_mgu | apply foldl_hostOut | apply foldl_shelfOut | apply foldl_responses | apply foldl_freeCount) <;> (first | (simp; done) | (intro t x; (repeat' split) <;> simp))

/-- What `undivert` leaves unchanged. -/
@[simp] theorem State.undivert_keeps (s : State) (es : List Nat) :
    (s.undivert es).pending = s.pending ∧ (s.undivert es).resetn = s.resetn ∧ (s.undivert es).lmu = s.lmu ∧ (s.undivert es).hli = s.hli ∧ (s.undivert es).cau = s.cau ∧ (s.undivert es).fre = s.fre ∧ (s.undivert es).mgc = s.mgc ∧ (s.undivert es).cpm = s.cpm ∧ (s.undivert es).acg = s.acg ∧ (s.undivert es).spc = s.spc ∧ (s.undivert es).msb = s.msb ∧ (s.undivert es).fnu = s.fnu ∧ (s.undivert es).mgu = s.mgu ∧ (s.undivert es).hostOut = s.hostOut ∧ (s.undivert es).shelfOut = s.shelfOut ∧ (s.undivert es).responses = s.responses ∧ (s.undivert es).freeCount = s.freeCount := by
  simp only [State.undivert]
  simp

/-- What `forget` leaves unchanged. -/
@[simp] theorem State.forget_keeps (s : State) (es : List Nat) :
    (s.forget es).pending = s.pending ∧ (s.forget es).resetn = s.resetn ∧ (s.forget es).lmu = s.lmu ∧ (s.forget es).hli = s.hli ∧ (s.forget es).cau = s.cau ∧ (s.forget es).mgc = s.mgc ∧ (s.forget es).cpm = s.cpm ∧ (s.forget es).acg = s.acg ∧ (s.forget es).dvq = s.dvq ∧ (s.forget es).spc = s.spc ∧ (s.forget es).msb = s.msb ∧ (s.forget es).fnu = s.fnu ∧ (s.forget es).mgu = s.mgu ∧ (s.forget es).hostOut = s.hostOut ∧ (s.forget es).shelfOut = s.shelfOut ∧ (s.forget es).responses = s.responses ∧ (s.forget es).freeCount = s.freeCount := by
  simp only [State.forget]
  simp

/-- What `cutRequests` leaves unchanged. -/
@[simp] theorem State.cutRequests_keeps (s : State) (p : HostPort) :
    (s.cutRequests p).pending = s.pending ∧ (s.cutRequests p).resetn = s.resetn ∧ (s.cutRequests p).lmu = s.lmu ∧ (s.cutRequests p).hli = s.hli ∧ (s.cutRequests p).cau = s.cau ∧ (s.cutRequests p).fre = s.fre ∧ (s.cutRequests p).mgc = s.mgc ∧ (s.cutRequests p).cpm = s.cpm ∧ (s.cutRequests p).acg = s.acg ∧ (s.cutRequests p).dvq = s.dvq ∧ (s.cutRequests p).spc = s.spc ∧ (s.cutRequests p).msb = s.msb ∧ (s.cutRequests p).fnu = s.fnu ∧ (s.cutRequests p).hostOut = s.hostOut ∧ (s.cutRequests p).shelfOut = s.shelfOut ∧ (s.cutRequests p).responses = s.responses := by
  simp only [State.cutRequests]
  (repeat' split) <;> simp

/-- What `hostReset` leaves unchanged. -/
@[simp] theorem State.hostReset_keeps (s : State) (p : HostPort) :
    (s.hostReset p).pending = s.pending ∧ (s.hostReset p).resetn = s.resetn ∧ (s.hostReset p).lmu = s.lmu ∧ (s.hostReset p).cau = s.cau ∧ (s.hostReset p).cpm = s.cpm ∧ (s.hostReset p).acg = s.acg ∧ (s.hostReset p).spc = s.spc ∧ (s.hostReset p).msb = s.msb ∧ (s.hostReset p).hostOut = s.hostOut ∧ (s.hostReset p).shelfOut = s.shelfOut ∧ (s.hostReset p).responses = s.responses := by
  simp only [State.hostReset]
  simp

/-- What `exitReport` leaves unchanged. -/
@[simp] theorem State.exitReport_keeps (s : State) (i p : Nat) :
    (s.exitReport i p).pending = s.pending ∧ (s.exitReport i p).resetn = s.resetn ∧ (s.exitReport i p).hli = s.hli ∧ (s.exitReport i p).cau = s.cau ∧ (s.exitReport i p).dvq = s.dvq ∧ (s.exitReport i p).spc = s.spc ∧ (s.exitReport i p).mgu = s.mgu ∧ (s.exitReport i p).hostOut = s.hostOut ∧ (s.exitReport i p).responses = s.responses := by
  simp only [State.exitReport]
  (repeat' split) <;> simp

/-- What `fenceTaken` leaves unchanged. -/
@[simp] theorem State.fenceTaken_keeps (s : State) (i : Nat) :
    (s.fenceTaken i).pending = s.pending ∧ (s.fenceTaken i).resetn = s.resetn ∧ (s.fenceTaken i).hli = s.hli ∧ (s.fenceTaken i).cau = s.cau ∧ (s.fenceTaken i).dvq = s.dvq ∧ (s.fenceTaken i).spc = s.spc ∧ (s.fenceTaken i).mgu = s.mgu ∧ (s.fenceTaken i).hostOut = s.hostOut ∧ (s.fenceTaken i).responses = s.responses := by
  simp only [State.fenceTaken]
  (repeat' split) <;> simp

/-- What `abortQueue` leaves unchanged. -/
@[simp] theorem State.abortQueue_keeps (s : State) (p : HostPort) :
    (s.abortQueue p).pending = s.pending ∧ (s.abortQueue p).resetn = s.resetn ∧ (s.abortQueue p).lmu = s.lmu ∧ (s.abortQueue p).cau = s.cau ∧ (s.abortQueue p).fre = s.fre ∧ (s.abortQueue p).mgc = s.mgc ∧ (s.abortQueue p).cpm = s.cpm ∧ (s.abortQueue p).acg = s.acg ∧ (s.abortQueue p).dvq = s.dvq ∧ (s.abortQueue p).spc = s.spc ∧ (s.abortQueue p).msb = s.msb ∧ (s.abortQueue p).fnu = s.fnu ∧ (s.abortQueue p).mgu = s.mgu ∧ (s.abortQueue p).shelfOut = s.shelfOut ∧ (s.abortQueue p).responses = s.responses ∧ (s.abortQueue p).freeCount = s.freeCount := by
  simp only [State.abortQueue]
  (repeat' apply And.intro) <;> (first | refine (foldl_pending _ _ _ ?_).trans ?_ | refine (foldl_resetn _ _ _ ?_).trans ?_ | refine (foldl_lmu _ _ _ ?_).trans ?_ | refine (foldl_cau _ _ _ ?_).trans ?_ | refine (foldl_fre _ _ _ ?_).trans ?_ | refine (foldl_mgc _ _ _ ?_).trans ?_ | refine (foldl_cpm _ _ _ ?_).trans ?_ | refine (foldl_acg _ _ _ ?_).trans ?_ | refine (foldl_dvq _ _ _ ?_).trans ?_ | refine (foldl_spc _ _ _ ?_).trans ?_ | refine (foldl_msb _ _ _ ?_).trans ?_ | refine (foldl_fnu _ _ _ ?_).trans ?_ | refine (foldl_mgu _ _ _ ?_).trans ?_ | refine (foldl_shelfOut _ _ _ ?_).trans ?_ | refine (foldl_responses _ _ _ ?_).trans ?_ | refine (foldl_freeCount _ _ _ ?_).trans ?_) <;> simp

/-- What `abortEntry` leaves unchanged. -/
@[simp] theorem State.abortEntry_keeps (s : State) (e : Nat) :
    (s.abortEntry e).pending = s.pending ∧ (s.abortEntry e).resetn = s.resetn ∧ (s.abortEntry e).lmu = s.lmu ∧ (s.abortEntry e).hli = s.hli ∧ (s.abortEntry e).cau = s.cau ∧ (s.abortEntry e).mgc = s.mgc ∧ (s.abortEntry e).cpm = s.cpm ∧ (s.abortEntry e).acg = s.acg ∧ (s.abortEntry e).dvq = s.dvq ∧ (s.abortEntry e).spc = s.spc ∧ (s.abortEntry e).msb = s.msb ∧ (s.abortEntry e).fnu = s.fnu ∧ (s.abortEntry e).mgu = s.mgu ∧ (s.abortEntry e).shelfOut = s.shelfOut ∧ (s.abortEntry e).responses = s.responses ∧ (s.abortEntry e).freeCount = s.freeCount := by
  simp only [State.abortEntry]
  (repeat' split) <;> simp

/-- What `abortCommands` leaves unchanged. -/
@[simp] theorem State.abortCommands_keeps (s : State) :
    (s.abortCommands).pending = s.pending ∧ (s.abortCommands).resetn = s.resetn ∧ (s.abortCommands).lmu = s.lmu ∧ (s.abortCommands).hli = s.hli ∧ (s.abortCommands).cau = s.cau ∧ (s.abortCommands).mgc = s.mgc ∧ (s.abortCommands).cpm = s.cpm ∧ (s.abortCommands).acg = s.acg ∧ (s.abortCommands).dvq = s.dvq ∧ (s.abortCommands).spc = s.spc ∧ (s.abortCommands).msb = s.msb ∧ (s.abortCommands).fnu = s.fnu ∧ (s.abortCommands).mgu = s.mgu ∧ (s.abortCommands).shelfOut = s.shelfOut ∧ (s.abortCommands).responses = s.responses ∧ (s.abortCommands).freeCount = s.freeCount := by
  simp only [State.abortCommands]
  simp

/-- What `revertRecords` leaves unchanged. -/
@[simp] theorem State.revertRecords_keeps (s : State) :
    (s.revertRecords).pending = s.pending ∧ (s.revertRecords).resetn = s.resetn ∧ (s.revertRecords).hli = s.hli ∧ (s.revertRecords).cau = s.cau ∧ (s.revertRecords).fre = s.fre ∧ (s.revertRecords).mgc = s.mgc ∧ (s.revertRecords).cpm = s.cpm ∧ (s.revertRecords).acg = s.acg ∧ (s.revertRecords).dvq = s.dvq ∧ (s.revertRecords).spc = s.spc ∧ (s.revertRecords).fnu = s.fnu ∧ (s.revertRecords).mgu = s.mgu ∧ (s.revertRecords).hostOut = s.hostOut ∧ (s.revertRecords).shelfOut = s.shelfOut ∧ (s.revertRecords).responses = s.responses ∧ (s.revertRecords).freeCount = s.freeCount := by
  simp only [State.revertRecords]
  simp

/-- What `releaseSlotHolds` leaves unchanged. -/
@[simp] theorem State.releaseSlotHolds_keeps (s : State) :
    (s.releaseSlotHolds).pending = s.pending ∧ (s.releaseSlotHolds).resetn = s.resetn ∧ (s.releaseSlotHolds).hli = s.hli ∧ (s.releaseSlotHolds).cau = s.cau ∧ (s.releaseSlotHolds).fre = s.fre ∧ (s.releaseSlotHolds).mgc = s.mgc ∧ (s.releaseSlotHolds).cpm = s.cpm ∧ (s.releaseSlotHolds).acg = s.acg ∧ (s.releaseSlotHolds).dvq = s.dvq ∧ (s.releaseSlotHolds).spc = s.spc ∧ (s.releaseSlotHolds).msb = s.msb ∧ (s.releaseSlotHolds).fnu = s.fnu ∧ (s.releaseSlotHolds).mgu = s.mgu ∧ (s.releaseSlotHolds).hostOut = s.hostOut ∧ (s.releaseSlotHolds).shelfOut = s.shelfOut ∧ (s.releaseSlotHolds).responses = s.responses ∧ (s.releaseSlotHolds).freeCount = s.freeCount := by
  simp only [State.releaseSlotHolds]
  simp

/-- What `freeSlots` leaves unchanged. -/
@[simp] theorem State.freeSlots_keeps (s : State) :
    (s.freeSlots).pending = s.pending ∧ (s.freeSlots).resetn = s.resetn ∧ (s.freeSlots).lmu = s.lmu ∧ (s.freeSlots).hli = s.hli ∧ (s.freeSlots).cau = s.cau ∧ (s.freeSlots).fre = s.fre ∧ (s.freeSlots).cpm = s.cpm ∧ (s.freeSlots).acg = s.acg ∧ (s.freeSlots).dvq = s.dvq ∧ (s.freeSlots).spc = s.spc ∧ (s.freeSlots).msb = s.msb ∧ (s.freeSlots).fnu = s.fnu ∧ (s.freeSlots).mgu = s.mgu ∧ (s.freeSlots).hostOut = s.hostOut ∧ (s.freeSlots).shelfOut = s.shelfOut ∧ (s.freeSlots).responses = s.responses ∧ (s.freeSlots).freeCount = s.freeCount := by
  simp only [State.freeSlots]
  simp

/-- What `stopLanes` leaves unchanged. -/
@[simp] theorem State.stopLanes_keeps (s : State) :
    (s.stopLanes).pending = s.pending ∧ (s.stopLanes).resetn = s.resetn ∧ (s.stopLanes).lmu = s.lmu ∧ (s.stopLanes).hli = s.hli ∧ (s.stopLanes).cau = s.cau ∧ (s.stopLanes).fre = s.fre ∧ (s.stopLanes).mgc = s.mgc ∧ (s.stopLanes).dvq = s.dvq ∧ (s.stopLanes).spc = s.spc ∧ (s.stopLanes).msb = s.msb ∧ (s.stopLanes).fnu = s.fnu ∧ (s.stopLanes).mgu = s.mgu ∧ (s.stopLanes).hostOut = s.hostOut ∧ (s.stopLanes).responses = s.responses ∧ (s.stopLanes).freeCount = s.freeCount := by
  simp only [State.stopLanes]
  simp

/-- What `resetGovernor` leaves unchanged. -/
@[simp] theorem State.resetGovernor_keeps (s : State) :
    (s.resetGovernor).pending = s.pending ∧ (s.resetGovernor).resetn = s.resetn ∧ (s.resetGovernor).lmu = s.lmu ∧ (s.resetGovernor).hli = s.hli ∧ (s.resetGovernor).cau = s.cau ∧ (s.resetGovernor).fre = s.fre ∧ (s.resetGovernor).mgc = s.mgc ∧ (s.resetGovernor).cpm = s.cpm ∧ (s.resetGovernor).dvq = s.dvq ∧ (s.resetGovernor).spc = s.spc ∧ (s.resetGovernor).msb = s.msb ∧ (s.resetGovernor).fnu = s.fnu ∧ (s.resetGovernor).mgu = s.mgu ∧ (s.resetGovernor).hostOut = s.hostOut ∧ (s.resetGovernor).shelfOut = s.shelfOut ∧ (s.resetGovernor).responses = s.responses ∧ (s.resetGovernor).freeCount = s.freeCount := by
  simp only [State.resetGovernor]
  simp

/-- What `emptyDiversions` leaves unchanged. -/
@[simp] theorem State.emptyDiversions_keeps (s : State) :
    (s.emptyDiversions).pending = s.pending ∧ (s.emptyDiversions).resetn = s.resetn ∧ (s.emptyDiversions).lmu = s.lmu ∧ (s.emptyDiversions).hli = s.hli ∧ (s.emptyDiversions).cau = s.cau ∧ (s.emptyDiversions).fre = s.fre ∧ (s.emptyDiversions).mgc = s.mgc ∧ (s.emptyDiversions).cpm = s.cpm ∧ (s.emptyDiversions).acg = s.acg ∧ (s.emptyDiversions).spc = s.spc ∧ (s.emptyDiversions).msb = s.msb ∧ (s.emptyDiversions).fnu = s.fnu ∧ (s.emptyDiversions).mgu = s.mgu ∧ (s.emptyDiversions).hostOut = s.hostOut ∧ (s.emptyDiversions).shelfOut = s.shelfOut ∧ (s.emptyDiversions).responses = s.responses ∧ (s.emptyDiversions).freeCount = s.freeCount := by
  simp only [State.emptyDiversions]
  simp

/-- What `bridgeReset` leaves unchanged. -/
@[simp] theorem State.bridgeReset_keeps (s : State) :
    (s.bridgeReset).pending = s.pending ∧ (s.bridgeReset).resetn = s.resetn ∧ (s.bridgeReset).cau = s.cau ∧ (s.bridgeReset).spc = s.spc ∧ (s.bridgeReset).responses = s.responses ∧ (s.bridgeReset).freeCount = s.freeCount := by
  simp only [State.bridgeReset]
  simp

/-- What `currentFault` leaves unchanged. -/
@[simp] theorem State.currentFault_keeps (s : State) (p : Nat) :
    (s.currentFault p).pending = s.pending ∧ (s.currentFault p).resetn = s.resetn ∧ (s.currentFault p).hli = s.hli ∧ (s.currentFault p).cau = s.cau ∧ (s.currentFault p).dvq = s.dvq ∧ (s.currentFault p).mgu = s.mgu ∧ (s.currentFault p).responses = s.responses := by
  simp only [State.currentFault]
  (repeat' split) <;> simp

/-- What `settleExpires` leaves unchanged. -/
@[simp] theorem State.settleExpires_keeps (s : State) (p : Nat) :
    (s.settleExpires p).pending = s.pending ∧ (s.settleExpires p).resetn = s.resetn ∧ (s.settleExpires p).lmu = s.lmu ∧ (s.settleExpires p).hli = s.hli ∧ (s.settleExpires p).cau = s.cau ∧ (s.settleExpires p).fre = s.fre ∧ (s.settleExpires p).mgc = s.mgc ∧ (s.settleExpires p).cpm = s.cpm ∧ (s.settleExpires p).acg = s.acg ∧ (s.settleExpires p).dvq = s.dvq ∧ (s.settleExpires p).msb = s.msb ∧ (s.settleExpires p).mgu = s.mgu ∧ (s.settleExpires p).hostOut = s.hostOut ∧ (s.settleExpires p).responses = s.responses ∧ (s.settleExpires p).freeCount = s.freeCount := by
  simp only [State.settleExpires]
  (repeat' split) <;> simp

/-- What `linkExpires` leaves unchanged. -/
@[simp] theorem State.linkExpires_keeps (s : State) (p : Nat) :
    (s.linkExpires p).pending = s.pending ∧ (s.linkExpires p).resetn = s.resetn ∧ (s.linkExpires p).lmu = s.lmu ∧ (s.linkExpires p).hli = s.hli ∧ (s.linkExpires p).cau = s.cau ∧ (s.linkExpires p).fre = s.fre ∧ (s.linkExpires p).mgc = s.mgc ∧ (s.linkExpires p).cpm = s.cpm ∧ (s.linkExpires p).acg = s.acg ∧ (s.linkExpires p).dvq = s.dvq ∧ (s.linkExpires p).msb = s.msb ∧ (s.linkExpires p).mgu = s.mgu ∧ (s.linkExpires p).hostOut = s.hostOut ∧ (s.linkExpires p).shelfOut = s.shelfOut ∧ (s.linkExpires p).responses = s.responses ∧ (s.linkExpires p).freeCount = s.freeCount := by
  simp only [State.linkExpires]
  (repeat' split) <;> simp

/-- What `inventory` leaves unchanged. -/
@[simp] theorem State.inventory_keeps (s : State) (p : Nat) (es : List SlotEntry) :
    (s.inventory p es).pending = s.pending ∧ (s.inventory p es).resetn = s.resetn ∧ (s.inventory p es).hli = s.hli ∧ (s.inventory p es).cau = s.cau ∧ (s.inventory p es).dvq = s.dvq ∧ (s.inventory p es).mgu = s.mgu ∧ (s.inventory p es).responses = s.responses := by
  simp only [State.inventory]
  (repeat' split) <;> simp

/-- What `driveReport` leaves unchanged. -/
@[simp] theorem State.driveReport_keeps (s : State) (p : Nat) (d : Byte) (e : SlotEntry) :
    (s.driveReport p d e).pending = s.pending ∧ (s.driveReport p d e).resetn = s.resetn ∧ (s.driveReport p d e).hli = s.hli ∧ (s.driveReport p d e).cau = s.cau ∧ (s.driveReport p d e).dvq = s.dvq ∧ (s.driveReport p d e).mgu = s.mgu ∧ (s.driveReport p d e).responses = s.responses := by
  simp only [State.driveReport]
  (repeat' split) <;> simp

/-- What `linkLost` leaves unchanged. -/
@[simp] theorem State.linkLost_keeps (s : State) (p : Nat) :
    (s.linkLost p).pending = s.pending ∧ (s.linkLost p).resetn = s.resetn ∧ (s.linkLost p).hli = s.hli ∧ (s.linkLost p).cau = s.cau ∧ (s.linkLost p).dvq = s.dvq ∧ (s.linkLost p).mgu = s.mgu ∧ (s.linkLost p).responses = s.responses := by
  simp only [State.linkLost]
  (repeat' split) <;> simp

/-- What `completionRecord` leaves unchanged. -/
@[simp] theorem State.completionRecord_keeps (s : State) (p : Nat) (r : CompletionRecord) :
    (s.completionRecord p r).pending = s.pending ∧ (s.completionRecord p r).resetn = s.resetn ∧ (s.completionRecord p r).hli = s.hli ∧ (s.completionRecord p r).cau = s.cau ∧ (s.completionRecord p r).dvq = s.dvq ∧ (s.completionRecord p r).spc = s.spc ∧ (s.completionRecord p r).mgu = s.mgu ∧ (s.completionRecord p r).responses = s.responses := by
  simp only [State.completionRecord]
  (repeat' split) <;> simp

/-- What `fragmentExpires` leaves unchanged. -/
@[simp] theorem State.fragmentExpires_keeps (s : State) (n : Nat) :
    (s.fragmentExpires n).pending = s.pending ∧ (s.fragmentExpires n).resetn = s.resetn ∧ (s.fragmentExpires n).hli = s.hli ∧ (s.fragmentExpires n).cau = s.cau ∧ (s.fragmentExpires n).dvq = s.dvq ∧ (s.fragmentExpires n).spc = s.spc ∧ (s.fragmentExpires n).mgu = s.mgu ∧ (s.fragmentExpires n).responses = s.responses := by
  simp only [State.fragmentExpires]
  (repeat' split) <;> simp

/-- What `laneFragmentExpires` leaves unchanged. -/
@[simp] theorem State.laneFragmentExpires_keeps (s : State) (l j : Nat) :
    (s.laneFragmentExpires l j).pending = s.pending ∧ (s.laneFragmentExpires l j).resetn = s.resetn ∧ (s.laneFragmentExpires l j).hli = s.hli ∧ (s.laneFragmentExpires l j).cau = s.cau ∧ (s.laneFragmentExpires l j).dvq = s.dvq ∧ (s.laneFragmentExpires l j).spc = s.spc ∧ (s.laneFragmentExpires l j).mgu = s.mgu ∧ (s.laneFragmentExpires l j).hostOut = s.hostOut ∧ (s.laneFragmentExpires l j).responses = s.responses := by
  simp only [State.laneFragmentExpires]
  (repeat' split) <;> simp

/-- What `flushFragmentExpires` leaves unchanged. -/
@[simp] theorem State.flushFragmentExpires_keeps (s : State) (i : Nat) (q : Byte) (p : Nat) :
    (s.flushFragmentExpires i q p).pending = s.pending ∧ (s.flushFragmentExpires i q p).resetn = s.resetn ∧ (s.flushFragmentExpires i q p).hli = s.hli ∧ (s.flushFragmentExpires i q p).cau = s.cau ∧ (s.flushFragmentExpires i q p).dvq = s.dvq ∧ (s.flushFragmentExpires i q p).spc = s.spc ∧ (s.flushFragmentExpires i q p).mgu = s.mgu ∧ (s.flushFragmentExpires i q p).hostOut = s.hostOut ∧ (s.flushFragmentExpires i q p).responses = s.responses := by
  simp only [State.flushFragmentExpires]
  (repeat' split) <;> simp

/-- What `tickFragments` leaves unchanged. -/
@[simp] theorem State.tickFragments_keeps (s : State) :
    (s.tickFragments).pending = s.pending ∧ (s.tickFragments).resetn = s.resetn ∧ (s.tickFragments).lmu = s.lmu ∧ (s.tickFragments).hli = s.hli ∧ (s.tickFragments).cau = s.cau ∧ (s.tickFragments).acg = s.acg ∧ (s.tickFragments).dvq = s.dvq ∧ (s.tickFragments).spc = s.spc ∧ (s.tickFragments).msb = s.msb ∧ (s.tickFragments).fnu = s.fnu ∧ (s.tickFragments).mgu = s.mgu ∧ (s.tickFragments).hostOut = s.hostOut ∧ (s.tickFragments).shelfOut = s.shelfOut ∧ (s.tickFragments).responses = s.responses ∧ (s.tickFragments).freeCount = s.freeCount := by
  simp only [State.tickFragments]
  simp

/-- What `tickQueues` leaves unchanged. -/
@[simp] theorem State.tickQueues_keeps (s : State) :
    (s.tickQueues).pending = s.pending ∧ (s.tickQueues).resetn = s.resetn ∧ (s.tickQueues).lmu = s.lmu ∧ (s.tickQueues).hli = s.hli ∧ (s.tickQueues).cau = s.cau ∧ (s.tickQueues).fre = s.fre ∧ (s.tickQueues).cpm = s.cpm ∧ (s.tickQueues).acg = s.acg ∧ (s.tickQueues).spc = s.spc ∧ (s.tickQueues).msb = s.msb ∧ (s.tickQueues).fnu = s.fnu ∧ (s.tickQueues).mgu = s.mgu ∧ (s.tickQueues).hostOut = s.hostOut ∧ (s.tickQueues).shelfOut = s.shelfOut ∧ (s.tickQueues).responses = s.responses ∧ (s.tickQueues).freeCount = s.freeCount := by
  simp only [State.tickQueues]
  simp

/-- What `tickPorts` leaves unchanged. -/
@[simp] theorem State.tickPorts_keeps (s : State) :
    (s.tickPorts).pending = s.pending ∧ (s.tickPorts).resetn = s.resetn ∧ (s.tickPorts).lmu = s.lmu ∧ (s.tickPorts).hli = s.hli ∧ (s.tickPorts).cau = s.cau ∧ (s.tickPorts).fre = s.fre ∧ (s.tickPorts).mgc = s.mgc ∧ (s.tickPorts).cpm = s.cpm ∧ (s.tickPorts).dvq = s.dvq ∧ (s.tickPorts).fnu = s.fnu ∧ (s.tickPorts).mgu = s.mgu ∧ (s.tickPorts).hostOut = s.hostOut ∧ (s.tickPorts).shelfOut = s.shelfOut ∧ (s.tickPorts).responses = s.responses ∧ (s.tickPorts).freeCount = s.freeCount := by
  simp only [State.tickPorts]
  simp

/-- What `tick` leaves unchanged. -/
@[simp] theorem State.tick_keeps (s : State) :
    (s.tick).pending = s.pending ∧ (s.tick).resetn = s.resetn ∧ (s.tick).lmu = s.lmu ∧ (s.tick).hli = s.hli ∧ (s.tick).cau = s.cau ∧ (s.tick).fnu = s.fnu ∧ (s.tick).mgu = s.mgu ∧ (s.tick).hostOut = s.hostOut ∧ (s.tick).shelfOut = s.shelfOut ∧ (s.tick).responses = s.responses ∧ (s.tick).freeCount = s.freeCount := by
  simp only [State.tick]
  (repeat' split) <;> simp

/-- What `loadGroupEffect` leaves unchanged. -/
@[simp] theorem loadGroupEffect_keeps (s : State) (g u b : Nat) (ms : List MemberArg) :
    (loadGroupEffect g u b ms s).pending = s.pending ∧ (loadGroupEffect g u b ms s).resetn = s.resetn ∧ (loadGroupEffect g u b ms s).hli = s.hli ∧ (loadGroupEffect g u b ms s).cau = s.cau ∧ (loadGroupEffect g u b ms s).fre = s.fre ∧ (loadGroupEffect g u b ms s).mgc = s.mgc ∧ (loadGroupEffect g u b ms s).cpm = s.cpm ∧ (loadGroupEffect g u b ms s).acg = s.acg ∧ (loadGroupEffect g u b ms s).dvq = s.dvq ∧ (loadGroupEffect g u b ms s).spc = s.spc ∧ (loadGroupEffect g u b ms s).msb = s.msb ∧ (loadGroupEffect g u b ms s).fnu = s.fnu ∧ (loadGroupEffect g u b ms s).mgu = s.mgu ∧ (loadGroupEffect g u b ms s).hostOut = s.hostOut ∧ (loadGroupEffect g u b ms s).shelfOut = s.shelfOut ∧ (loadGroupEffect g u b ms s).responses = s.responses ∧ (loadGroupEffect g u b ms s).freeCount = s.freeCount := by
  simp only [loadGroupEffect]
  (repeat' split) <;> simp

/-- What `activateGroupEffect` leaves unchanged. -/
@[simp] theorem activateGroupEffect_keeps (s : State) (g : Nat) :
    (activateGroupEffect g s).pending = s.pending ∧ (activateGroupEffect g s).resetn = s.resetn ∧ (activateGroupEffect g s).hli = s.hli ∧ (activateGroupEffect g s).cau = s.cau ∧ (activateGroupEffect g s).fre = s.fre ∧ (activateGroupEffect g s).mgc = s.mgc ∧ (activateGroupEffect g s).cpm = s.cpm ∧ (activateGroupEffect g s).acg = s.acg ∧ (activateGroupEffect g s).dvq = s.dvq ∧ (activateGroupEffect g s).spc = s.spc ∧ (activateGroupEffect g s).msb = s.msb ∧ (activateGroupEffect g s).fnu = s.fnu ∧ (activateGroupEffect g s).mgu = s.mgu ∧ (activateGroupEffect g s).hostOut = s.hostOut ∧ (activateGroupEffect g s).shelfOut = s.shelfOut ∧ (activateGroupEffect g s).responses = s.responses ∧ (activateGroupEffect g s).freeCount = s.freeCount := by
  simp only [activateGroupEffect]
  (repeat' split) <;> simp

/-- What `deactivateGroupEffect` leaves unchanged. -/
@[simp] theorem deactivateGroupEffect_keeps (s : State) (g : Nat) :
    (deactivateGroupEffect g s).pending = s.pending ∧ (deactivateGroupEffect g s).resetn = s.resetn ∧ (deactivateGroupEffect g s).hli = s.hli ∧ (deactivateGroupEffect g s).cau = s.cau ∧ (deactivateGroupEffect g s).fre = s.fre ∧ (deactivateGroupEffect g s).mgc = s.mgc ∧ (deactivateGroupEffect g s).cpm = s.cpm ∧ (deactivateGroupEffect g s).acg = s.acg ∧ (deactivateGroupEffect g s).dvq = s.dvq ∧ (deactivateGroupEffect g s).spc = s.spc ∧ (deactivateGroupEffect g s).msb = s.msb ∧ (deactivateGroupEffect g s).fnu = s.fnu ∧ (deactivateGroupEffect g s).mgu = s.mgu ∧ (deactivateGroupEffect g s).hostOut = s.hostOut ∧ (deactivateGroupEffect g s).shelfOut = s.shelfOut ∧ (deactivateGroupEffect g s).responses = s.responses ∧ (deactivateGroupEffect g s).freeCount = s.freeCount := by
  simp only [deactivateGroupEffect]
  (repeat' split) <;> simp

/-- What `loadVolumeEffect` leaves unchanged. -/
@[simp] theorem loadVolumeEffect_keeps (s : State) (v m n d : Nat) :
    (loadVolumeEffect v m n d s).pending = s.pending ∧ (loadVolumeEffect v m n d s).resetn = s.resetn ∧ (loadVolumeEffect v m n d s).hli = s.hli ∧ (loadVolumeEffect v m n d s).cau = s.cau ∧ (loadVolumeEffect v m n d s).fre = s.fre ∧ (loadVolumeEffect v m n d s).mgc = s.mgc ∧ (loadVolumeEffect v m n d s).cpm = s.cpm ∧ (loadVolumeEffect v m n d s).acg = s.acg ∧ (loadVolumeEffect v m n d s).dvq = s.dvq ∧ (loadVolumeEffect v m n d s).spc = s.spc ∧ (loadVolumeEffect v m n d s).msb = s.msb ∧ (loadVolumeEffect v m n d s).fnu = s.fnu ∧ (loadVolumeEffect v m n d s).mgu = s.mgu ∧ (loadVolumeEffect v m n d s).hostOut = s.hostOut ∧ (loadVolumeEffect v m n d s).shelfOut = s.shelfOut ∧ (loadVolumeEffect v m n d s).responses = s.responses ∧ (loadVolumeEffect v m n d s).freeCount = s.freeCount := by
  simp only [loadVolumeEffect]
  (repeat' split) <;> simp

/-- What `setVolumeStateEffect` leaves unchanged. -/
@[simp] theorem setVolumeStateEffect_keeps (s : State) (v st : Nat) :
    (setVolumeStateEffect v st s).pending = s.pending ∧ (setVolumeStateEffect v st s).resetn = s.resetn ∧ (setVolumeStateEffect v st s).hli = s.hli ∧ (setVolumeStateEffect v st s).cau = s.cau ∧ (setVolumeStateEffect v st s).fre = s.fre ∧ (setVolumeStateEffect v st s).mgc = s.mgc ∧ (setVolumeStateEffect v st s).cpm = s.cpm ∧ (setVolumeStateEffect v st s).acg = s.acg ∧ (setVolumeStateEffect v st s).dvq = s.dvq ∧ (setVolumeStateEffect v st s).spc = s.spc ∧ (setVolumeStateEffect v st s).msb = s.msb ∧ (setVolumeStateEffect v st s).fnu = s.fnu ∧ (setVolumeStateEffect v st s).mgu = s.mgu ∧ (setVolumeStateEffect v st s).hostOut = s.hostOut ∧ (setVolumeStateEffect v st s).shelfOut = s.shelfOut ∧ (setVolumeStateEffect v st s).responses = s.responses ∧ (setVolumeStateEffect v st s).freeCount = s.freeCount := by
  simp only [setVolumeStateEffect]
  (repeat' split) <;> simp

/-- What `loadExtentsEffect` leaves unchanged. -/
@[simp] theorem loadExtentsEffect_keeps (s : State) (v f : Nat) (rs : List ExtentArg) :
    (loadExtentsEffect v f rs s).pending = s.pending ∧ (loadExtentsEffect v f rs s).resetn = s.resetn ∧ (loadExtentsEffect v f rs s).hli = s.hli ∧ (loadExtentsEffect v f rs s).fre = s.fre ∧ (loadExtentsEffect v f rs s).mgc = s.mgc ∧ (loadExtentsEffect v f rs s).cpm = s.cpm ∧ (loadExtentsEffect v f rs s).acg = s.acg ∧ (loadExtentsEffect v f rs s).dvq = s.dvq ∧ (loadExtentsEffect v f rs s).spc = s.spc ∧ (loadExtentsEffect v f rs s).fnu = s.fnu ∧ (loadExtentsEffect v f rs s).mgu = s.mgu ∧ (loadExtentsEffect v f rs s).hostOut = s.hostOut ∧ (loadExtentsEffect v f rs s).shelfOut = s.shelfOut ∧ (loadExtentsEffect v f rs s).responses = s.responses ∧ (loadExtentsEffect v f rs s).freeCount = s.freeCount := by
  simp only [loadExtentsEffect]
  (repeat' split) <;> simp

/-- What `loadInitiatorEffect` leaves unchanged. -/
@[simp] theorem loadInitiatorEffect_keeps (s : State) (id : BitVec 32) (p : Nat) (rs : List Nat) (m : Nat) :
    (loadInitiatorEffect id p rs m s).pending = s.pending ∧ (loadInitiatorEffect id p rs m s).resetn = s.resetn ∧ (loadInitiatorEffect id p rs m s).lmu = s.lmu ∧ (loadInitiatorEffect id p rs m s).hli = s.hli ∧ (loadInitiatorEffect id p rs m s).fre = s.fre ∧ (loadInitiatorEffect id p rs m s).mgc = s.mgc ∧ (loadInitiatorEffect id p rs m s).cpm = s.cpm ∧ (loadInitiatorEffect id p rs m s).acg = s.acg ∧ (loadInitiatorEffect id p rs m s).dvq = s.dvq ∧ (loadInitiatorEffect id p rs m s).spc = s.spc ∧ (loadInitiatorEffect id p rs m s).msb = s.msb ∧ (loadInitiatorEffect id p rs m s).fnu = s.fnu ∧ (loadInitiatorEffect id p rs m s).mgu = s.mgu ∧ (loadInitiatorEffect id p rs m s).hostOut = s.hostOut ∧ (loadInitiatorEffect id p rs m s).shelfOut = s.shelfOut ∧ (loadInitiatorEffect id p rs m s).responses = s.responses ∧ (loadInitiatorEffect id p rs m s).freeCount = s.freeCount := by
  simp only [loadInitiatorEffect]
  (repeat' split) <;> simp

/-- What `dropInitiatorEffect` leaves unchanged. -/
@[simp] theorem dropInitiatorEffect_keeps (s : State) (id : BitVec 32) (p : Nat) :
    (dropInitiatorEffect id p s).pending = s.pending ∧ (dropInitiatorEffect id p s).resetn = s.resetn ∧ (dropInitiatorEffect id p s).lmu = s.lmu ∧ (dropInitiatorEffect id p s).hli = s.hli ∧ (dropInitiatorEffect id p s).fre = s.fre ∧ (dropInitiatorEffect id p s).mgc = s.mgc ∧ (dropInitiatorEffect id p s).cpm = s.cpm ∧ (dropInitiatorEffect id p s).acg = s.acg ∧ (dropInitiatorEffect id p s).dvq = s.dvq ∧ (dropInitiatorEffect id p s).spc = s.spc ∧ (dropInitiatorEffect id p s).msb = s.msb ∧ (dropInitiatorEffect id p s).fnu = s.fnu ∧ (dropInitiatorEffect id p s).mgu = s.mgu ∧ (dropInitiatorEffect id p s).hostOut = s.hostOut ∧ (dropInitiatorEffect id p s).shelfOut = s.shelfOut ∧ (dropInitiatorEffect id p s).responses = s.responses ∧ (dropInitiatorEffect id p s).freeCount = s.freeCount := by
  simp only [dropInitiatorEffect]
  (repeat' split) <;> simp

/-- What `growVolumeEffect` leaves unchanged. -/
@[simp] theorem growVolumeEffect_keeps (s : State) (v : Nat) (ls : List (Nat × Nat)) :
    (growVolumeEffect v ls s).pending = s.pending ∧ (growVolumeEffect v ls s).resetn = s.resetn ∧ (growVolumeEffect v ls s).hli = s.hli ∧ (growVolumeEffect v ls s).fre = s.fre ∧ (growVolumeEffect v ls s).mgc = s.mgc ∧ (growVolumeEffect v ls s).cpm = s.cpm ∧ (growVolumeEffect v ls s).acg = s.acg ∧ (growVolumeEffect v ls s).dvq = s.dvq ∧ (growVolumeEffect v ls s).spc = s.spc ∧ (growVolumeEffect v ls s).fnu = s.fnu ∧ (growVolumeEffect v ls s).mgu = s.mgu ∧ (growVolumeEffect v ls s).hostOut = s.hostOut ∧ (growVolumeEffect v ls s).shelfOut = s.shelfOut ∧ (growVolumeEffect v ls s).responses = s.responses ∧ (growVolumeEffect v ls s).freeCount = s.freeCount := by
  simp only [growVolumeEffect]
  (repeat' split) <;> simp

/-- What `abortEffect` leaves unchanged. -/
@[simp] theorem abortEffect_keeps (s : State) (v x : Nat) :
    (abortEffect v x s).pending = s.pending ∧ (abortEffect v x s).resetn = s.resetn ∧ (abortEffect v x s).hli = s.hli ∧ (abortEffect v x s).cau = s.cau ∧ (abortEffect v x s).dvq = s.dvq ∧ (abortEffect v x s).spc = s.spc ∧ (abortEffect v x s).mgu = s.mgu ∧ (abortEffect v x s).hostOut = s.hostOut ∧ (abortEffect v x s).responses = s.responses := by
  simp only [abortEffect]
  (repeat' split) <;> simp

/-- What `copyPolicyEffect` leaves unchanged. -/
@[simp] theorem copyPolicyEffect_keeps (s : State) (a b c d e : Option Nat) :
    (copyPolicyEffect a b c d e s).pending = s.pending ∧ (copyPolicyEffect a b c d e s).resetn = s.resetn ∧ (copyPolicyEffect a b c d e s).lmu = s.lmu ∧ (copyPolicyEffect a b c d e s).hli = s.hli ∧ (copyPolicyEffect a b c d e s).cau = s.cau ∧ (copyPolicyEffect a b c d e s).fre = s.fre ∧ (copyPolicyEffect a b c d e s).acg = s.acg ∧ (copyPolicyEffect a b c d e s).dvq = s.dvq ∧ (copyPolicyEffect a b c d e s).spc = s.spc ∧ (copyPolicyEffect a b c d e s).msb = s.msb ∧ (copyPolicyEffect a b c d e s).fnu = s.fnu ∧ (copyPolicyEffect a b c d e s).mgu = s.mgu ∧ (copyPolicyEffect a b c d e s).hostOut = s.hostOut ∧ (copyPolicyEffect a b c d e s).shelfOut = s.shelfOut ∧ (copyPolicyEffect a b c d e s).responses = s.responses ∧ (copyPolicyEffect a b c d e s).freeCount = s.freeCount := by
  simp only [copyPolicyEffect]
  (repeat' split) <;> simp

/-- What `governorEffect` leaves unchanged. -/
@[simp] theorem governorEffect_keeps (s : State) (a b : Option Nat) :
    (governorEffect a b s).pending = s.pending ∧ (governorEffect a b s).resetn = s.resetn ∧ (governorEffect a b s).lmu = s.lmu ∧ (governorEffect a b s).hli = s.hli ∧ (governorEffect a b s).cau = s.cau ∧ (governorEffect a b s).fre = s.fre ∧ (governorEffect a b s).mgc = s.mgc ∧ (governorEffect a b s).cpm = s.cpm ∧ (governorEffect a b s).dvq = s.dvq ∧ (governorEffect a b s).spc = s.spc ∧ (governorEffect a b s).msb = s.msb ∧ (governorEffect a b s).fnu = s.fnu ∧ (governorEffect a b s).mgu = s.mgu ∧ (governorEffect a b s).hostOut = s.hostOut ∧ (governorEffect a b s).shelfOut = s.shelfOut ∧ (governorEffect a b s).responses = s.responses ∧ (governorEffect a b s).freeCount = s.freeCount := by
  simp only [governorEffect]
  simp

/-- What `setDivertEffect` leaves unchanged. -/
@[simp] theorem setDivertEffect_keeps (s : State) (q : Option (Nat × Nat)) (a : Option Nat) :
    (setDivertEffect q a s).pending = s.pending ∧ (setDivertEffect q a s).resetn = s.resetn ∧ (setDivertEffect q a s).hli = s.hli ∧ (setDivertEffect q a s).cau = s.cau ∧ (setDivertEffect q a s).fre = s.fre ∧ (setDivertEffect q a s).mgc = s.mgc ∧ (setDivertEffect q a s).cpm = s.cpm ∧ (setDivertEffect q a s).acg = s.acg ∧ (setDivertEffect q a s).spc = s.spc ∧ (setDivertEffect q a s).msb = s.msb ∧ (setDivertEffect q a s).fnu = s.fnu ∧ (setDivertEffect q a s).mgu = s.mgu ∧ (setDivertEffect q a s).hostOut = s.hostOut ∧ (setDivertEffect q a s).shelfOut = s.shelfOut ∧ (setDivertEffect q a s).responses = s.responses ∧ (setDivertEffect q a s).freeCount = s.freeCount := by
  simp only [setDivertEffect]
  (repeat' split) <;> simp

/-- What `resolveEffect` leaves unchanged. -/
@[simp] theorem resolveEffect_keeps (s : State) (n : Nat) (o : ResolveArg) :
    (resolveEffect n o s).pending = s.pending ∧ (resolveEffect n o s).resetn = s.resetn ∧ (resolveEffect n o s).lmu = s.lmu ∧ (resolveEffect n o s).hli = s.hli ∧ (resolveEffect n o s).cau = s.cau ∧ (resolveEffect n o s).mgc = s.mgc ∧ (resolveEffect n o s).cpm = s.cpm ∧ (resolveEffect n o s).acg = s.acg ∧ (resolveEffect n o s).spc = s.spc ∧ (resolveEffect n o s).msb = s.msb ∧ (resolveEffect n o s).fnu = s.fnu ∧ (resolveEffect n o s).mgu = s.mgu ∧ (resolveEffect n o s).shelfOut = s.shelfOut ∧ (resolveEffect n o s).responses = s.responses ∧ (resolveEffect n o s).freeCount = s.freeCount := by
  simp only [resolveEffect]
  (repeat' split) <;> simp

/-- What `powerModeEffect` leaves unchanged. -/
@[simp] theorem powerModeEffect_keeps (s : State) (m : PowerMode) :
    (powerModeEffect m s).pending = s.pending ∧ (powerModeEffect m s).resetn = s.resetn ∧ (powerModeEffect m s).hli = s.hli ∧ (powerModeEffect m s).cau = s.cau ∧ (powerModeEffect m s).dvq = s.dvq ∧ (powerModeEffect m s).mgu = s.mgu ∧ (powerModeEffect m s).responses = s.responses := by
  simp only [powerModeEffect]
  (repeat' split) <;> simp

/-- What `powerShelvesEffect` leaves unchanged. -/
@[simp] theorem powerShelvesEffect_keeps (s : State) (v : Bool) :
    (powerShelvesEffect v s).pending = s.pending ∧ (powerShelvesEffect v s).resetn = s.resetn ∧ (powerShelvesEffect v s).hli = s.hli ∧ (powerShelvesEffect v s).cau = s.cau ∧ (powerShelvesEffect v s).dvq = s.dvq ∧ (powerShelvesEffect v s).mgu = s.mgu ∧ (powerShelvesEffect v s).responses = s.responses := by
  simp only [powerShelvesEffect]
  (repeat' split) <;> simp

/-- What `powerPortEffect` leaves unchanged. -/
@[simp] theorem powerPortEffect_keeps (s : State) (p : Nat) (a b : Bool) :
    (powerPortEffect p a b s).pending = s.pending ∧ (powerPortEffect p a b s).resetn = s.resetn ∧ (powerPortEffect p a b s).hli = s.hli ∧ (powerPortEffect p a b s).cau = s.cau ∧ (powerPortEffect p a b s).dvq = s.dvq ∧ (powerPortEffect p a b s).mgu = s.mgu ∧ (powerPortEffect p a b s).responses = s.responses := by
  simp only [powerPortEffect]
  (repeat' split) <;> simp

/-- What `resetShelfPortEffect` leaves unchanged. -/
@[simp] theorem resetShelfPortEffect_keeps (s : State) (p : Nat) :
    (resetShelfPortEffect p s).pending = s.pending ∧ (resetShelfPortEffect p s).resetn = s.resetn ∧ (resetShelfPortEffect p s).hli = s.hli ∧ (resetShelfPortEffect p s).cau = s.cau ∧ (resetShelfPortEffect p s).dvq = s.dvq ∧ (resetShelfPortEffect p s).mgu = s.mgu ∧ (resetShelfPortEffect p s).responses = s.responses := by
  simp only [resetShelfPortEffect]
  (repeat' split) <;> simp

/-- What `fragmentTimeoutEffect` leaves unchanged. -/
@[simp] theorem fragmentTimeoutEffect_keeps (s : State) (x : Option Nat) :
    (fragmentTimeoutEffect x s).pending = s.pending ∧ (fragmentTimeoutEffect x s).resetn = s.resetn ∧ (fragmentTimeoutEffect x s).lmu = s.lmu ∧ (fragmentTimeoutEffect x s).hli = s.hli ∧ (fragmentTimeoutEffect x s).cau = s.cau ∧ (fragmentTimeoutEffect x s).mgc = s.mgc ∧ (fragmentTimeoutEffect x s).cpm = s.cpm ∧ (fragmentTimeoutEffect x s).acg = s.acg ∧ (fragmentTimeoutEffect x s).dvq = s.dvq ∧ (fragmentTimeoutEffect x s).spc = s.spc ∧ (fragmentTimeoutEffect x s).msb = s.msb ∧ (fragmentTimeoutEffect x s).fnu = s.fnu ∧ (fragmentTimeoutEffect x s).mgu = s.mgu ∧ (fragmentTimeoutEffect x s).hostOut = s.hostOut ∧ (fragmentTimeoutEffect x s).shelfOut = s.shelfOut ∧ (fragmentTimeoutEffect x s).responses = s.responses ∧ (fragmentTimeoutEffect x s).freeCount = s.freeCount := by
  simp only [fragmentTimeoutEffect]
  simp

/-- What `setScrubEffect` leaves unchanged. -/
@[simp] theorem setScrubEffect_keeps (s : State) (x : Option Nat) :
    (setScrubEffect x s).pending = s.pending ∧ (setScrubEffect x s).resetn = s.resetn ∧ (setScrubEffect x s).lmu = s.lmu ∧ (setScrubEffect x s).hli = s.hli ∧ (setScrubEffect x s).cau = s.cau ∧ (setScrubEffect x s).fre = s.fre ∧ (setScrubEffect x s).mgc = s.mgc ∧ (setScrubEffect x s).cpm = s.cpm ∧ (setScrubEffect x s).acg = s.acg ∧ (setScrubEffect x s).dvq = s.dvq ∧ (setScrubEffect x s).spc = s.spc ∧ (setScrubEffect x s).fnu = s.fnu ∧ (setScrubEffect x s).mgu = s.mgu ∧ (setScrubEffect x s).hostOut = s.hostOut ∧ (setScrubEffect x s).shelfOut = s.shelfOut ∧ (setScrubEffect x s).responses = s.responses ∧ (setScrubEffect x s).freeCount = s.freeCount := by
  simp only [setScrubEffect]
  simp

/-- What `diagnosticEffect` leaves unchanged. -/
@[simp] theorem diagnosticEffect_keeps (s : State) (k j : Nat) :
    (diagnosticEffect k j s).pending = s.pending ∧ (diagnosticEffect k j s).resetn = s.resetn ∧ (diagnosticEffect k j s).lmu = s.lmu ∧ (diagnosticEffect k j s).hli = s.hli ∧ (diagnosticEffect k j s).cau = s.cau ∧ (diagnosticEffect k j s).fre = s.fre ∧ (diagnosticEffect k j s).mgc = s.mgc ∧ (diagnosticEffect k j s).cpm = s.cpm ∧ (diagnosticEffect k j s).acg = s.acg ∧ (diagnosticEffect k j s).dvq = s.dvq ∧ (diagnosticEffect k j s).spc = s.spc ∧ (diagnosticEffect k j s).fnu = s.fnu ∧ (diagnosticEffect k j s).mgu = s.mgu ∧ (diagnosticEffect k j s).hostOut = s.hostOut ∧ (diagnosticEffect k j s).shelfOut = s.shelfOut ∧ (diagnosticEffect k j s).responses = s.responses ∧ (diagnosticEffect k j s).freeCount = s.freeCount := by
  simp only [diagnosticEffect]
  (repeat' split) <;> simp

/-- What `noticeMaskEffect` leaves unchanged. -/
@[simp] theorem noticeMaskEffect_keeps (s : State) (l : List MaskItem) :
    (noticeMaskEffect l s).pending = s.pending ∧ (noticeMaskEffect l s).resetn = s.resetn ∧ (noticeMaskEffect l s).lmu = s.lmu ∧ (noticeMaskEffect l s).hli = s.hli ∧ (noticeMaskEffect l s).cau = s.cau ∧ (noticeMaskEffect l s).fre = s.fre ∧ (noticeMaskEffect l s).mgc = s.mgc ∧ (noticeMaskEffect l s).cpm = s.cpm ∧ (noticeMaskEffect l s).acg = s.acg ∧ (noticeMaskEffect l s).dvq = s.dvq ∧ (noticeMaskEffect l s).spc = s.spc ∧ (noticeMaskEffect l s).msb = s.msb ∧ (noticeMaskEffect l s).mgu = s.mgu ∧ (noticeMaskEffect l s).hostOut = s.hostOut ∧ (noticeMaskEffect l s).shelfOut = s.shelfOut ∧ (noticeMaskEffect l s).responses = s.responses ∧ (noticeMaskEffect l s).freeCount = s.freeCount := by
  simp only [noticeMaskEffect]
  simp

/-- What `clearFaultsEffect` leaves unchanged. -/
@[simp] theorem clearFaultsEffect_keeps (s : State) (l : List FaultItem) :
    (clearFaultsEffect l s).pending = s.pending ∧ (clearFaultsEffect l s).resetn = s.resetn ∧ (clearFaultsEffect l s).lmu = s.lmu ∧ (clearFaultsEffect l s).hli = s.hli ∧ (clearFaultsEffect l s).cau = s.cau ∧ (clearFaultsEffect l s).fre = s.fre ∧ (clearFaultsEffect l s).mgc = s.mgc ∧ (clearFaultsEffect l s).cpm = s.cpm ∧ (clearFaultsEffect l s).acg = s.acg ∧ (clearFaultsEffect l s).dvq = s.dvq ∧ (clearFaultsEffect l s).spc = s.spc ∧ (clearFaultsEffect l s).msb = s.msb ∧ (clearFaultsEffect l s).mgu = s.mgu ∧ (clearFaultsEffect l s).hostOut = s.hostOut ∧ (clearFaultsEffect l s).shelfOut = s.shelfOut ∧ (clearFaultsEffect l s).responses = s.responses ∧ (clearFaultsEffect l s).freeCount = s.freeCount := by
  simp only [clearFaultsEffect]
  simp

/-- What `faultMasksEffect` leaves unchanged. -/
@[simp] theorem faultMasksEffect_keeps (s : State) (a : List FaultMaskItem) (b : List MaskItem) :
    (faultMasksEffect a b s).pending = s.pending ∧ (faultMasksEffect a b s).resetn = s.resetn ∧ (faultMasksEffect a b s).lmu = s.lmu ∧ (faultMasksEffect a b s).hli = s.hli ∧ (faultMasksEffect a b s).cau = s.cau ∧ (faultMasksEffect a b s).fre = s.fre ∧ (faultMasksEffect a b s).mgc = s.mgc ∧ (faultMasksEffect a b s).cpm = s.cpm ∧ (faultMasksEffect a b s).acg = s.acg ∧ (faultMasksEffect a b s).dvq = s.dvq ∧ (faultMasksEffect a b s).spc = s.spc ∧ (faultMasksEffect a b s).msb = s.msb ∧ (faultMasksEffect a b s).mgu = s.mgu ∧ (faultMasksEffect a b s).hostOut = s.hostOut ∧ (faultMasksEffect a b s).shelfOut = s.shelfOut ∧ (faultMasksEffect a b s).responses = s.responses ∧ (faultMasksEffect a b s).freeCount = s.freeCount := by
  simp only [faultMasksEffect]
  simp

/-- What `migrateEffect` leaves unchanged. -/
@[simp] theorem migrateEffect_keeps (s : State) (v x g b : Nat) :
    ((migrateEffect v x g b s).1).pending = s.pending ∧ ((migrateEffect v x g b s).1).resetn = s.resetn ∧ ((migrateEffect v x g b s).1).hli = s.hli ∧ ((migrateEffect v x g b s).1).cau = s.cau ∧ ((migrateEffect v x g b s).1).dvq = s.dvq ∧ ((migrateEffect v x g b s).1).spc = s.spc ∧ ((migrateEffect v x g b s).1).mgu = s.mgu ∧ ((migrateEffect v x g b s).1).hostOut = s.hostOut ∧ ((migrateEffect v x g b s).1).responses = s.responses := by
  simp only [migrateEffect]
  (repeat' split) <;> simp

/-- What `diagnosticReply` leaves unchanged. -/
@[simp] theorem diagnosticReply_keeps (s : State) (k j : Nat) :
    ((diagnosticReply k j s).1).pending = s.pending ∧ ((diagnosticReply k j s).1).resetn = s.resetn ∧ ((diagnosticReply k j s).1).lmu = s.lmu ∧ ((diagnosticReply k j s).1).hli = s.hli ∧ ((diagnosticReply k j s).1).cau = s.cau ∧ ((diagnosticReply k j s).1).fre = s.fre ∧ ((diagnosticReply k j s).1).mgc = s.mgc ∧ ((diagnosticReply k j s).1).cpm = s.cpm ∧ ((diagnosticReply k j s).1).acg = s.acg ∧ ((diagnosticReply k j s).1).dvq = s.dvq ∧ ((diagnosticReply k j s).1).spc = s.spc ∧ ((diagnosticReply k j s).1).fnu = s.fnu ∧ ((diagnosticReply k j s).1).mgu = s.mgu ∧ ((diagnosticReply k j s).1).hostOut = s.hostOut ∧ ((diagnosticReply k j s).1).shelfOut = s.shelfOut ∧ ((diagnosticReply k j s).1).responses = s.responses ∧ ((diagnosticReply k j s).1).freeCount = s.freeCount := by
  simp only [diagnosticReply]
  (repeat' split) <;> simp

end Sys2Proof.Machine
end

