-- ==== Sys2Proof/Laws/Ops.lean ====
section
/-! SUPPORT. What the readers of the state's tables read after each write: one lemma for each pair of writer and reader. -/

namespace Sys2Proof.Machine

theorem State.volume_setVolume (s : State) (v w : Nat) (x : Volume) :
    (s.setVolume v x).volume w = if w = v then some x else s.volume w := Tbl.find_ins _ _ _ _

theorem State.group_setGroup (s : State) (g h : Nat) (x : Group) :
    (s.setGroup g x).group h = if h = g then some x else s.group h := Tbl.find_ins _ _ _ _

theorem State.command_setCommand (s : State) (e f : Nat) (c : Command) :
    (s.setCommand e c).command f = if f = e then some c else s.command f := Tbl.find_ins _ _ _ _

theorem State.command_dropCommand (s : State) (e f : Nat) :
    (s.dropCommand e).command f = if f = e then none else s.command f := Tbl.find_del _ _ _

theorem State.slot_setSlot (s : State) (i j : Nat) (x : Slot) : (s.setSlot i x).slot j = if j = i then x else s.slot j :=
  Tbl.getD_ins _ _ _ _ _

theorem State.slot_setClaim (s : State) (i j : Nat) (c : Claim) :
    (s.setClaim i c).slot j = if j = i then { s.slot i with claim := some c } else s.slot j := Tbl.getD_ins _ _ _ _ _

theorem State.lane_setLane (s : State) (l m : Nat) (x : Lane) : (s.setLane l x).lane m = if m = l then x else s.lane m :=
  Tbl.getD_ins _ _ _ _ _

theorem State.port_setPort (s : State) (p q : Nat) (x : Port) : (s.setPort p x).port q = if q = p then x else s.port q :=
  Tbl.getD_ins _ _ _ _ _

theorem State.sect_setSect (s : State) (k j : Nat) (x : Section) : (s.setSect k x).sect j = if j = k then x else s.sect j := by
  unfold State.sect State.setSect
  simp only [State.setMsb_msb, Tbl.find_ins]
  by_cases h : j = k
  · simp [h]
  · simp [h]

/-- A record is in a FENCED section as the section's own state says. -/
theorem State.fencedAt_eq (s : State) (i : Nat) : s.fencedAt i = (s.sect (sectionOf i)).fenced := by
  unfold State.fencedAt State.sect
  cases Tbl.find s.msb.sections (sectionOf i) <;> rfl

theorem State.recAt_storeRec (s : State) (i j : Nat) (r : ExtRec) : (s.storeRec i r).recAt j = if j = i then r else s.recAt j :=
  Tbl.getD_put _ _ _ _ _

theorem State.drive_setDrive (s : State) (p d q e : Nat) (x : Drive) (hd : d < 256) (he : e < 256) :
    (s.setDrive p d x).drive q e = if q = p ∧ e = d then x else s.drive q e := by
  refine (Tbl.getD_put _ _ _ _ _).trans ?_
  by_cases h : q = p ∧ e = d
  · obtain ⟨rfl, rfl⟩ := h; simp
  · rw [if_neg h, if_neg]
    · rfl
    · simp only [driveKey]; intro hk; exact h ⟨by omega, by omega⟩

theorem State.holder_hold (s : State) (l m : Loc) (h : Holder) (hl : l.band < 65536) (hm : m.band < 65536) :
    (s.hold l h).holder m = if m = l then some h else s.holder m := by
  refine (Tbl.find_ins _ _ _ _).trans ?_
  have hk : bandKey m = bandKey l ↔ m = l := by
    constructor
    · intro e
      simp only [bandKey] at e
      cases m; cases l; simp only [Loc.mk.injEq] at *; omega
    · rintro rfl; rfl
  simp only [hk]; rfl

theorem State.queue_setQueue (s : State) (p q : HostPort) (x : List CommandRecord) :
    (s.setQueue p x).queue q = if q = p then x else s.queue q := by cases p <;> cases q <;> rfl

@[simp] theorem State.setQueue_servedLast (s : State) (p : HostPort) (x : List CommandRecord) :
    (s.setQueue p x).hli.servedLast = s.hli.servedLast := by cases p <;> rfl

theorem State.linkResets_setLinkResets (s : State) (p q : HostPort) (n : Nat) :
    (s.setLinkResets p n).linkResets q = if q = p then n else s.linkResets q := by cases p <;> cases q <;> rfl

/-- A flag reads as it was set, and the others as before. -/
theorem getLsbD_setFlag {n : Nat} (x : BitVec n) (i j : Nat) (v : Bool) (hj : j < n) :
    (setFlag x i v).getLsbD j = if j = i then v else x.getLsbD j := by
  unfold setFlag
  by_cases e : j = i
  · subst e
    cases v <;> simp [hj]
  · cases v <;> simp [hj, e]

/-- A notice raised is pending, and the others are as before (R162). -/
theorem State.pendingNotice_raise (s : State) (n m : Notice) :
    (s.raise n).pendingNotice m = (decide (m = n) || s.pendingNotice m) := by
  have hm : m.bit < 10 := by cases m <;> decide
  have e : (m.bit = n.bit) ↔ m = n := by cases m <;> cases n <;> decide
  unfold State.pendingNotice State.raise
  simp only [State.setFnu_fnu, getLsbD_setFlag _ _ _ _ hm, e]
  by_cases h : m = n <;> simp [h]

/-- ALERT reads the FNU alone. -/
theorem State.alert_congr {s t : State} (h : s.fnu = t.fnu) : s.alert = t.alert := by
  have hu : s.unmasked = t.unmasked := by funext i; simp only [State.unmasked, State.condAt, h]
  simp only [State.alert, State.summary, hu, h]

/-- A record write in an UNFENCED section: the record, and its section's check over the map as it then stands (R8, R148). -/
theorem State.writeRec_unfenced (s : State) (i : Nat) (r : ExtRec) (h : s.fencedAt i = false) :
    s.writeRec i r = (s.storeRec i r).recheck (sectionOf i) := by simp [State.writeRec, h]

/-- A record write in a FENCED section is discarded (R8). -/
theorem State.writeRec_fenced (s : State) (i : Nat) (r : ExtRec) (h : s.fencedAt i = true) : s.writeRec i r = s := by
  simp [State.writeRec, h]

/-- What a command does that is taken outside RESETn. -/
theorem State.event_of_released (s : State) (f : State → State) (h : s.resetn = false) : s.event f = .next (f s) := by
  simp [State.event, h]

/-- The next state of an event. -/
theorem State.event_next {s t : State} {f : State → State} (h : s.event f = .next t) : t = if s.resetn then s else f s := by
  simp only [State.event, Host.Outcome.next.injEq] at h
  exact h.symm

/-- A request whose checks pass is done. -/
theorem State.runRequest_done {s : State} {i : Instr} {code : BitVec 16} {refusal : State → Option Refuse}
    {effect : State → State × List Byte} (hr : s.resetn = false) (ht : s.takes i = true) (hc : refusal s = none) :
    s.runRequest i code refusal effect = .next ((effect s).1.respond code { refused := none, body := (effect s).2 }) := by
  simp [State.runRequest, State.manage, State.event, hr, ht, hc]

/-- A request one of whose checks fails is refused, with nothing changed but the response (R170). -/
theorem State.runRequest_refused {s : State} {i : Instr} {code : BitVec 16} {refusal : State → Option Refuse}
    {effect : State → State × List Byte} {r : Refuse} (hr : s.resetn = false) (ht : s.takes i = true) (hc : refusal s = some r) :
    s.runRequest i code refusal effect = .next (s.respond code { refused := some r, body := [] }) := by
  simp [State.runRequest, State.manage, State.event, hr, ht, hc]

/-- Every next state of a request row: nothing, a refusal, or its effect, each with its response. -/
theorem State.runRequest_next {s t : State} {i : Instr} {code : BitVec 16} {refusal : State → Option Refuse}
    {effect : State → State × List Byte} (h : s.runRequest i code refusal effect = .next t) :
    t = s ∨ (∃ r, t = s.respond code { refused := some r, body := [] })
      ∨ t = (effect s).1.respond code { refused := none, body := (effect s).2 } := by
  have := State.event_next h
  subst this
  split
  · exact .inl rfl
  · split
    · cases hc : refusal s with
      | none => exact .inr (.inr (by simp [hc]))
      | some r => exact .inr (.inl ⟨r, by simp [hc]⟩)
    · exact .inl rfl

/-- A request that can leave work due at the slots: refused with nothing changed but the response, or its effect, its response, and then
that work (R169). -/
theorem State.runWork_next {s t : State} {i : Instr} {code : BitVec 16} {refusal : State → Option Refuse}
    {effect : State → State × List Byte} (h : s.runWork i code refusal effect = .next t) :
    t = s ∨ (∃ r, t = s.respond code { refused := some r, body := [] })
      ∨ t = ((effect s).1.respond code { refused := none, body := (effect s).2 }).settle := by
  have := State.event_next h
  subst this
  split
  · exact .inl rfl
  · split
    · cases hc : refusal s with
      | none => exact .inr (.inr rfl)
      | some r => exact .inr (.inl ⟨r, rfl⟩)
    · exact .inl rfl

/-- Such a request whose checks pass. -/
theorem State.runWork_done {s : State} {i : Instr} {code : BitVec 16} {refusal : State → Option Refuse}
    {effect : State → State × List Byte} (hr : s.resetn = false) (ht : s.takes i = true) (hc : refusal s = none) :
    s.runWork i code refusal effect = .next ((effect s).1.respond code { refused := none, body := (effect s).2 }).settle := by
  simp [State.runWork, State.event, hr, ht, hc]

/-- Such a request one of whose checks fails. -/
theorem State.runWork_refused {s : State} {i : Instr} {code : BitVec 16} {refusal : State → Option Refuse}
    {effect : State → State × List Byte} {r : Refuse} (hr : s.resetn = false) (ht : s.takes i = true) (hc : refusal s = some r) :
    s.runWork i code refusal effect = .next (s.respond code { refused := some r, body := [] }) := by
  simp [State.runWork, State.event, hr, ht, hc]

/-- A request left executing by a host port reset ends with its response discarded (R168). -/
theorem State.respond_orphan {s : State} (h : s.mgu.orphan.isSome = true) (c : BitVec 16) (r : Reply) :
    s.respond c r = s.setMgu { s.mgu with orphan := none } := by
  cases ho : s.mgu.orphan with
  | none => simp [ho] at h
  | some _ => simp [State.respond, ho]

/-- Any other request is answered. -/
theorem State.respond_answers {s : State} (h : s.mgu.orphan = none) (c : BitVec 16) (r : Reply) :
    s.respond c r = s.answerRequest c r := by
  simp [State.respond, h]

/-- The response that a request forms, last of those formed. -/
theorem State.respond_responses {s : State} (h : s.mgu.orphan = none) (c : BitVec 16) (r : Reply) :
    (s.respond c r).responses = s.responses ++ [{ code := c, refused := r.refused, attention := s.alert, body := r.body }] := by
  simp only [State.respond_answers h, State.answerRequest]
  split <;> simp

/-- Commands that join the re-entry list: those of them in the Command Table are WAITING, and every other entry is as before (R41). -/
theorem State.command_rejoin (s : State) (es : List Nat) (p : EntryPoint) (e : Nat) :
    (s.rejoin es p).command e = if e ∈ es then (s.command e).map (fun c => { c with state := .waiting }) else s.command e := by
  induction es generalizing s with
  | nil => simp [State.rejoin]
  | cons a l ih =>
    simp only [State.rejoin, ih, List.mem_cons]
    have hf : ∀ (u : State) (q : List (Nat × EntryPoint)), (u.setFre { u.fre with reentry := q }).command e = u.command e := fun _ _ => rfl
    simp only [hf]
    by_cases ha : e = a
    · subst ha
      cases hc : s.command e with
      | none => simp [hc]
      | some c => simp [State.command_setCommand]
    · cases hc : s.command a with
      | none => simp [ha]
      | some c => simp [ha, State.command_setCommand]

/-- They join at its tail, in order (R41). -/
theorem State.reentry_rejoin (s : State) (es : List Nat) (p : EntryPoint) :
    (s.rejoin es p).fre.reentry = s.fre.reentry ++ es.map (fun e => (e, p)) := by
  induction es generalizing s with
  | nil => simp [State.rejoin]
  | cons a l ih =>
    simp only [State.rejoin, ih]
    cases s.command a <;> simp [State.setCommand]

end Sys2Proof.Machine
end

