-- ==== Sys2Proof/Laws/Wire.lean ====
section
/-! SUPPORT. Reading back what was written, field by field (R179). -/

namespace Sys2Proof.Machine

@[simp] theorem leBytes_length (n x : Nat) : (leBytes n x).length = n := by
  induction n generalizing x with
  | zero => rfl
  | succ n ih => simp [leBytes, ih]

/-- The bytes of a number spell it, as far as they reach. -/
theorem ofLe_leBytes (n x : Nat) : ofLe (leBytes n x) = x % 256 ^ n := by
  induction n generalizing x with
  | zero => simp [leBytes, ofLe, Nat.mod_one]
  | succ n ih =>
    simp only [leBytes, ofLe, ih, BitVec.toNat_ofNat]
    rw [show (256 : Nat) ^ (n + 1) = 256 * 256 ^ n by rw [Nat.pow_succ, Nat.mul_comm], Nat.mod_mul]

/-- A number that fits is read back, and what follows it is left. -/
theorem takeN_leBytes {n x : Nat} (h : x < 256 ^ n) (r : List Byte) : takeN n (leBytes n x ++ r) = some (x, r) := by
  have hl : (leBytes n x).length = n := leBytes_length n x
  unfold takeN
  rw [if_pos (by simp)]
  rw [List.take_append_of_le_length (by omega), List.drop_append_of_le_length (by omega), List.take_of_length_le (by omega),
    List.drop_of_length_le (by omega), ofLe_leBytes, Nat.mod_eq_of_lt h]
  rfl

/-- The same with nothing after it. -/
theorem takeN_leBytes_end {n x : Nat} (h : x < 256 ^ n) : takeN n (leBytes n x) = some (x, []) := by
  simpa using takeN_leBytes h []

/-- A value that may be left out is read back. -/
theorem takeOpt_putOpt {n : Nat} {o : Option Nat} (h : fitsOpt n o = true) (r : List Byte) : takeOpt n (putOpt n o ++ r) = some (o, r) := by
  cases o with
  | none => simp [takeOpt, putOpt, takeN, ofLe]
  | some x =>
    have hx : x < 256 ^ n := by simpa [fitsOpt, fits] using h
    have h1 : takeN 1 ((1 : Byte) :: leBytes n x ++ r) = some (1, leBytes n x ++ r) := by simp [takeN, ofLe]
    simp only [takeOpt, putOpt]
    rw [h1]
    simp [takeN_leBytes hx]

/-- Items that are each read back are read back one after another. -/
theorem takeMany_flatMap {α : Type} {item : List Byte → Option (α × List Byte)} {put : α → List Byte} (l : List α)
    (h : ∀ x ∈ l, ∀ r, item (put x ++ r) = some (x, r)) (r : List Byte) :
    takeMany item l.length (l.flatMap put ++ r) = some (l, r) := by
  induction l with
  | nil => rfl
  | cons x l ih =>
    simp only [List.length_cons, takeMany, List.flatMap_cons, List.append_assoc]
    rw [h x (by simp)]
    simp [ih (fun y hy => h y (by simp [hy]))]

/-- A list with its count is read back. -/
theorem takeList_putList {α : Type} {item : List Byte → Option (α × List Byte)} {put : α → List Byte} {l : List α}
    (hl : l.length < 65536) (h : ∀ x ∈ l, ∀ r, item (put x ++ r) = some (x, r)) (r : List Byte) :
    takeList item (putList put l ++ r) = some (l, r) := by
  simp only [takeList, putList, List.append_assoc]
  rw [takeN_leBytes (by simpa using hl)]
  exact takeMany_flatMap l h r

/-- A slot entry of an inventory report is read back, and what follows it is left (R179). -/
theorem takeEntry_entryBytes (e : SlotEntry) (d : Byte) (r : List Byte) : takeEntry (entryBytes d e ++ r) = some (e, r) := by
  have hl : (leBytes 6 e.capacity.toNat).length = 6 := leBytes_length 6 _
  have hn : 8 ≤ (entryBytes d e ++ r).length := by simp [entryBytes]
  have hd : ((entryBytes d e ++ r).drop 2).take 6 = leBytes 6 e.capacity.toNat := by
    simp only [entryBytes, List.cons_append, List.nil_append, List.drop_succ_cons, List.drop_zero]
    rw [List.take_append_of_le_length (by omega), List.take_of_length_le (by omega)]
  have ht : (entryBytes d e ++ r).drop 8 = r := by
    simp only [entryBytes, List.cons_append, List.nil_append, List.drop_succ_cons]
    rw [List.drop_append_of_le_length (by omega), List.drop_of_length_le (by omega)]
    rfl
  have hc : BitVec.ofNat 48 (ofLe (leBytes 6 e.capacity.toNat)) = e.capacity := by
    apply BitVec.eq_of_toNat_eq
    have := e.capacity.isLt
    rw [ofLe_leBytes, BitVec.toNat_ofNat]
    omega
  unfold takeEntry takeN readEntry
  rw [if_pos hn, ht, hd, hc]
  rfl

end Sys2Proof.Machine
end

