-- ==== Sys2Proof/Tests/Slice0.lean ====
section
/-! SUPPORT. Tests: ill-formed terms refused by each check of WellFormed, the spec's worked cases, and for each obligation with hypotheses a
state and operands that meet them all. -/

namespace Sys2Proof.Machine

/-! ### WellFormed refuses -/

/-- One ill-formed term for each check of `Instr.wf`. -/
def illFormed : List Instr :=
  [.commandRecord .hp0 { initiator := 0, tag := 0, kind := .unknown 7, volume := 0, start := 0, length := 0, data := [] },
   .commandRecord .hp0 { initiator := 0, tag := 0, kind := .unknown 1, volume := 0, start := 0, length := 0, data := [] },
   .shelfCompletionRecord 0 { handle := .unknown 0 5, outcome := 0, data := [] },
   .shelfCompletionRecord 0 { handle := .unknown 1 0x3F01FF03, outcome := 0, data := [] },
   .shelfCompletionRecord 0 { handle := .unknown 2 0xFF03, outcome := 0, data := [] },
   .inventoryReport 0 (List.replicate 65536 { presence := 0, capacity := 0 }),
   .loadGroup 256 16 0 1 [], .loadGroup 0 65536 0 1 [], .loadGroup 0 16 256 1 [], .loadGroup 0 16 0 65536 [], .loadGroup 0 16 1 1 [],
   .loadGroup 0 16 1 1 [⟨256, 0, 0⟩], .loadGroup 0 16 1 1 [⟨0, 256, 0⟩], .loadGroup 0 16 1 1 [⟨0, 0, 2 ^ 48⟩],
   .activateGroup 256, .deactivateGroup 256, .readGroup 256 0 0, .readGroup 0 65536 0, .readGroup 0 0 65536,
   .loadVolume 256 0 1 0, .loadVolume 0 65536 1 0, .loadVolume 0 0 65536 0, .loadVolume 0 0 1 256,
   .setVolumeState 256 0, .setVolumeState 0 256, .readVolume 256,
   .loadExtents 256 0 [], .loadExtents 0 65536 [], .loadExtents 0 0 [⟨256, 0, 0, 0, 0⟩], .loadExtents 0 0 [⟨0, 65536, 0, 0, 0⟩],
   .loadExtents 0 0 [⟨0, 0, 256, 0, 0⟩], .readExtents 256 0 0, .readExtents 0 65536 0, .readExtents 0 0 65536,
   .loadInitiator 0 256 (List.replicate 16 0) 0, .loadInitiator 0 0 (List.replicate 15 0) 0,
   .loadInitiator 0 0 (List.replicate 16 256) 0, .loadInitiator 0 0 (List.replicate 16 0) 256, .dropInitiator 0 256,
   .readInitiators 256 0, .readInitiators 0 256, .growVolume 256 [], .growVolume 0 [(256, 0)], .growVolume 0 [(0, 65536)],
   .migrate 256 0 0 0 0, .migrate 0 65536 0 0 0, .migrate 0 0 256 0 0, .migrate 0 0 0 65536 0, .abortMigration 256 0 0,
   .abortMigration 0 65536 0, .pauseSlot 256, .resumeSlot 256, .readSlot 256,
   .setCopyPolicy (some 256) none none none none, .setCopyPolicy none (some 256) none none none,
   .setCopyPolicy none none (some 256) none none, .setCopyPolicy none none none (some 256) none,
   .setCopyPolicy none none none none (some 65536), .setGovernor (some 65536) none, .setGovernor none (some 65536),
   .setDivert none (some 256), .setDivert (some (256, 0)) none, .setDivert (some (0, 256)) none, .setDivert (some (0, 0)) (some 256),
   .resolve 256 0 .pass, .resolve 0 0 (.other 1), .resolve 0 0 (.other 256), .resolve 0 0 (.complete 256 none none none),
   .resolve 0 0 (.complete 0 (some (2 ^ 64)) none none), .resolve 0 0 (.complete 0 none (some 256) none),
   .resolve 0 0 (.complete 0 none none (some 256)), .setPowerMode 256, .powerShelves 256, .powerPort 256 0 0, .powerPort 0 256 0,
   .powerPort 0 0 256, .resetShelfPort 256, .readShelf 256, .setFragmentTimeout (some 256), .setScrub (some 256),
   .checkDiagnostic 256 0, .checkDiagnostic 0 256, .setNoticeMask [⟨256, 0⟩], .setNoticeMask [⟨0, 256⟩], .clearFaults [⟨256, 0⟩],
   .clearFaults [⟨0, 256⟩], .setFaultMasks [⟨256, 0, 0⟩] [], .setFaultMasks [⟨0, 256, 0⟩] [], .setFaultMasks [⟨0, 0, 256⟩] [],
   .setFaultMasks [] [⟨256, 0⟩]]

theorem test_ill_formed_terms_are_refused : illFormed.all (fun i => !i.wf) = true := by decide +kernel

/-! ### The spec's worked cases -/

/-- 8.1: the check value over the nine ASCII digits 1 to 9. -/
theorem test_check_value : crc32 [0x31, 0x32, 0x33, 0x34, 0x35, 0x36, 0x37, 0x38, 0x39] = 0xCBF43926#32 := by decide +kernel

/-- 1.6, first case: group 7, U = 64, W = 12, B = 40, band 5. -/
def layout7 : Layout :=
  { unit := .u64, bands := 40, members := (List.range 12).map (fun m => { port := 0, drive := m, base := if m = 6 then 1000000 else 0 }) }

theorem test_partial_last_row : translate layout7 5 19301 =
    { member := 6, port := 0, drive := 6, dbn := 1111077, left := 27, chunk := 18 } := by decide

theorem test_last_block_of_the_extent : (translate layout7 5 262143).member = 8 ∧ (translate layout7 5 262143).dbn = 131327 ∧
    layout7.unitsPerExtent = 4096 ∧ layout7.rows = 342 ∧ layout7.span = 21888 := by decide

/-- 1.6, second case: group 12, U = 256, W = 16, B = 200, band 3. -/
def layout12 : Layout :=
  { unit := .u256, bands := 200, members := (List.range 16).map (fun m => { port := 0, drive := m, base := if m = 5 then 2000000 else 0 }) }

theorem test_full_rows : translate layout12 3 213568 =
    { member := 5, port := 0, drive := 5, dbn := 2062528, left := 192, chunk := 208 } := by decide

/-! ### A small part -/

/-- Group 0, ACTIVE: one drive on port 0, U = 256, eight bands. -/
def oneDrive : Layout := { unit := .u256, bands := 8, members := [⟨0, 0, 0⟩] }

/-- Volume 0: two extents in use at the map's start. -/
def smallVolume : Volume :=
  { state := .online, mapBase := 0, reserved := 16, count := 2, divertDiscard := false, divertFlush := false }

/-- Initiator 7 on HP0, with READ-WRITE everywhere and MANAGE. -/
def owner : Initiator := { id := 7, port := .hp0, rights := List.replicate 16 .readWrite, manage := true, sizePending := 0 }

/-- A port in ONLINE with its own switch ON. -/
def upPort : Port := { Port.initial with state := .online, output := true, switch := true }

/-- Extent 0 is PLAIN at band 0, extent 1 ZERO at band 1, both with generation 1. -/
def live : State :=
  { State.reset with
    lmu :=
      { volumes := [(0, smallVolume)],
        extents := [(0, { emptyRec with state := .plain, gen := 1 }), (1, { emptyRec with band := 1, gen := 1 })],
        groups := [(0, ⟨true, oneDrive⟩)], bands := [(0, .record 0), (1, .record 1)] },
    cau := ⟨[(0, owner)]⟩,
    spc := { Spc.reset with ports := [(0, upPort)], drives := [(0, ⟨true, 100000000, 0⟩)] } }

/-- A command of initiator 7 on volume 0. -/
def cmd (k : Kind) (start : BitVec 64) (len : BitVec 16) (data : List Block) : CommandRecord :=
  { initiator := 7, tag := 1, kind := k, volume := 0, start := start, length := len, data := data }

/-- A CONTROL of initiator 7. -/
def control : CommandRecord := { initiator := 7, tag := 1, kind := .control, volume := 255, start := 0, length := 1, data := [0] }

/-- One command waits on HP0. -/
def waiting (r : CommandRecord) : State := live.setQueue .hp0 [r]

/-- A CONTROL with no request code heads the management queue. -/
def asked : State := (live.setMgu ⟨[0], none⟩).setCommand 0 { record := control, port := .hp0, state := .managing }

/-- The claim of a move of extent 0 to band 5. -/
def moving (st : SlotState) (m : Move) : Claim :=
  { state := st, volume := 0, extent := 0, index := 0, source := ⟨0, 0⟩, chunks := [], drain := [], hold := [], move := some m }

/-- The first pass of that move. -/
def firstPass : Move := { target := ⟨0, 5⟩, pass := 1, sweep := 0, attempts := 0, flushOut := 0, timer := none }

/-- The claim of a ZERO slot for extent 1. -/
def zeroing : Claim :=
  { state := .zeroing, volume := 0, extent := 1, index := 1, source := ⟨0, 1⟩, chunks := [], drain := [], hold := [], move := none }

/-- Slot 0 is claimed, and the record and the target band name it. -/
def onSlot (c : Claim) : State :=
  ((live.setClaim 0 c).storeRec c.index { live.recAt c.index with
    state := if c.move.isSome then .moving else .zeroing, slot := some 0 }).hold ⟨0, 5⟩ (.target 0)

/-- Lane 0 in a state for slot 0. -/
def onLane (st : LaneState) (op : LaneOp) (s : State) : State :=
  s.setLane 0 { Lane.initial with state := st, slot := some 0, op := some op, chunk := some 0, source := some ⟨0, 0⟩, target := some ⟨0, 5⟩ }

/-! ### The machine as a whole -/

theorem wit_StepRunsFrontCommand : (live.setPending [.scrubVisit, .windowEnd]).pending = .scrubVisit :: [.windowEnd] := rfl

theorem wit_EmptyQueueStepIsOneMillisecond :
    (live.pending = [] ∧ live.resetn = false) ∧ ((live.setResetn true).pending = [] ∧ (live.setResetn true).resetn = true) :=
  ⟨⟨rfl, rfl⟩, rfl, rfl⟩

theorem wit_ResetInputDiscardsAndRestores : isPowerReset .scrubVisit = false ∧ isFaultLevel .scrubVisit = false ∧ live.resetn = false :=
  ⟨rfl, rfl, rfl⟩

theorem wit_RefusedRequestChangesNothing : ∃ t x, exec (.readVolume 16) live = .next t ∧ t.responses = live.responses ++ [x] ∧
    x.refused = some .badArgument := ⟨_, _, rfl, rfl, rfl⟩

/-- A request executes whose CONTROL a host port reset took. -/
def orphaned : State := live.setMgu ⟨[], some { control with data := [38] }⟩

theorem wit_ResponseAnswersTheHeadControl : orphaned.mgu.orphan.isSome = true ∧ (live.mgu.orphan = none ∧ live.mgu.queue = []) ∧
    (∃ c, asked.mgu.orphan = none ∧ asked.mgu.queue = 0 :: [] ∧ asked.command 0 = some c) :=
  ⟨rfl, ⟨rfl, rfl⟩, _, rfl, rfl, rfl⟩

theorem wit_AlertAndAttention :
    (∃ t x, exec .resetBridge live = .next t ∧ t.responses = live.responses ++ [x]) ∧
    (∃ t x, exec .readNotices live = .next t ∧ t.responses = live.responses ++ [x] ∧ leavesWork .readNotices = false) ∧
    (∃ t x, exec (.powerShelves 2) live = .next t ∧ t.responses = live.responses ++ [x] ∧ x.refused.isSome = true) ∧
    (∃ t x, exec (.powerShelves 1) live = .next t ∧ t.responses = live.responses ++ [x] ∧ x.refused = none) ∧
    leavesWork (.powerShelves 1) = true ∧ leavesWork (.powerShelves 2) = true ∧
    (∃ c : Command, c.record.kind = .control ∧ 8 ≤ (live.setMgu ⟨[0, 1, 2, 3, 4, 5, 6, 7], none⟩).mgu.load ∧
      8 ≤ (live.setMgu ⟨[0, 1, 2, 3, 4, 5, 6], some c.record⟩).mgu.load) :=
  ⟨⟨_, _, rfl, rfl⟩, ⟨_, _, rfl, rfl, rfl⟩, ⟨_, _, rfl, rfl, rfl⟩, ⟨_, _, rfl, rfl, rfl⟩, rfl, rfl, ⟨control, .hp0, .waiting⟩, rfl,
    by decide, by decide⟩

theorem wit_RequestRecordsRoundTrip : Instr.wf (.resolve 255 255 (.complete 9 (some 5) none (some 3))) = true ∧
    (∃ code body, requestParts (.resolve 255 255 (.complete 9 (some 5) none (some 3))) = some (code, body)) ∧
    (cmd .format 0 0 []).kind.wf = true ∧ (cmd (.unknown 255) 0 0 []).kind.wf = true ∧ (.pool 4095 255 : Handle).wf = true ∧
    (.lane 3 255 .writing 63 : Handle).wf = true ∧ (.slotFlush 3 255 : Handle).wf = true ∧ (.unknown 255 9 : Handle).wf = true ∧
    (List.replicate 24 (⟨1, 5⟩ : SlotEntry)).length < 65536 ∧ readInventory (inventoryBytes [⟨1, 5⟩, ⟨0, 9⟩]) = some [⟨1, 5⟩, ⟨0, 9⟩] :=
  ⟨by decide, ⟨_, _, rfl⟩, by decide⟩

/-! ### Invariants -/

theorem wit_TablesStayInOrder : (live.setPending [.scrubVisit]).TablesInOrder ∧ ∃ t, step (live.setPending [.scrubVisit]) = .next t :=
  ⟨by unfold State.TablesInOrder; decide, _, rfl⟩

theorem wit_SectionChecksStayInAgreement : (State.reset.setPending [.scrubVisit]).ChecksAgree ∧
    (∀ i r rest, (State.reset.setPending [.scrubVisit]).pending ≠ .mapMemoryFault i r :: rest) ∧
    ∃ t, step (State.reset.setPending [.scrubVisit]) = .next t :=
  ⟨fun _ _ _ => rfl, fun _ _ _ h => (by cases h), _, rfl⟩

/-- Two volumes with adjoining regions, two ACTIVE groups with adjoining ranges on one drive, and a step. -/
def adjoining : State :=
  ((live.setVolume 1 { smallVolume with mapBase := 16 }).setGroup 1 ⟨true, { oneDrive with members := [⟨0, 0, 8 * oneDrive.span⟩] }⟩).setPending
    [.scrubVisit]

/-- What holds of every listed value holds of every value found. -/
theorem found {α : Type} (P : Nat → α → Prop) : (t : Tbl α) → (∀ q ∈ t, P q.1 q.2) → ∀ k x, Tbl.find t k = some x → P k x
  | [], _, _, _, h => by cases h
  | (i, y) :: t, hp, k, x, h => by
    unfold Tbl.find at h
    split at h
    · subst_vars; cases h; exact hp _ (.head _)
    · exact found P t (fun q hq => hp q (.tail _ hq)) k x h

theorem wit_RegionsAndMemberRangesStayDisjoint :
    adjoining.VolumesSound ∧ adjoining.GroupsSound ∧ ∃ t, step adjoining = .next t :=
  ⟨⟨found _ _ (by decide), fun v w x y hne hv hw =>
      found (fun v x => ∀ q ∈ adjoining.lmu.volumes, v ≠ q.1 → x.mapBase + x.reserved ≤ q.2.mapBase ∨ q.2.mapBase + q.2.reserved ≤ x.mapBase)
        _ (by decide) v x hv _ (found (fun w y => (w, y) ∈ adjoining.lmu.volumes) _ (fun _ h => h) w y hw) hne⟩,
    fun g h a b hne hg hh =>
      found (fun g a => ∀ q ∈ adjoining.lmu.groups, g ≠ q.1 → a.active = true → q.2.active = true →
          ∀ m ∈ a.layout.members, ∀ n ∈ q.2.layout.members, m.port = n.port → m.drive = n.drive →
            a.layout.memberEnd m ≤ n.base ∨ q.2.layout.memberEnd n ≤ m.base)
        _ (by decide) g a hg _ (found (fun h b => (h, b) ∈ adjoining.lmu.groups) _ (fun _ h => h) h b hh) hne,
    _, rfl⟩

theorem wit_InitiatorsStaySound : (live.setPending [.scrubVisit]).InitiatorsSound ∧ ∃ t, step (live.setPending [.scrubVisit]) = .next t :=
  ⟨by unfold State.InitiatorsSound; decide, _, rfl⟩

theorem wit_QueuesAndTuningStayInBounds : (live.setPending [.scrubVisit]).QueuesBounded ∧ (live.setPending [.scrubVisit]).TuningInRange ∧
    ∃ t, step (live.setPending [.scrubVisit]) = .next t :=
  ⟨⟨fun p => by cases p <;> decide, by decide, fun _ _ h => (by cases h)⟩, by unfold State.TuningInRange; decide, _, rfl⟩

/-- Lane 0 copies chunk 0 of the move on slot 0. -/
def copying : State := onLane .reading .copy (onSlot ((moving .copying firstPass).setChunk 0 .copying))

theorem wit_SlotsKeepOneCopyAtATime : copying.OneLanePerSlot ∧ copying.OneBusyChunk ∧ ∃ t, step copying = .next t := by
  refine ⟨?_, ?_, _, rfl⟩
  · intro i
    rcases i with _ | i
    · decide
    · exact Nat.zero_le 1
  · intro i c h
    rcases i with _ | i
    · cases h; decide +kernel
    · cases h

theorem wit_PortsStaySound : (live.setPending [.scrubVisit]).PortsSound ∧ ∃ t, step (live.setPending [.scrubVisit]) = .next t :=
  ⟨by unfold State.PortsSound; decide, _, rfl⟩

/-! ### Who may write which state -/

/-- Section 0 is FENCED. -/
def fenced (s : State) : State := s.setSect 0 { Section.initial 0 with fenced := true }

/-- A CONTROL whose request record is that of RESET BRIDGE heads the management queue. -/
def askedReset : State :=
  (live.setMgu ⟨[0], none⟩).setCommand 0 { record := { control with data := [38] }, port := .hp0, state := .managing }

theorem wit_frames : (∃ t, exec .scrubVisit live = .next t) ∧ writesVolumes .scrubVisit = false ∧ writesTuning .scrubVisit = false ∧
    writesSwitches .scrubVisit = false ∧ writesMasks .scrubVisit = false ∧ writesGroups .scrubVisit = false ∧
    writesInitiators .scrubVisit = false ∧ rewritesVersions .scrubVisit = false ∧ advancesVersions .scrubVisit = false ∧
    clearsConditions .scrubVisit = false ∧ clearsNotices .scrubVisit = false ∧ writesSample .scrubVisit = false :=
  ⟨⟨_, rfl⟩, rfl, rfl, rfl, rfl, rfl, rfl, rfl, rfl, rfl, rfl, rfl⟩

theorem wit_tables_across_resets : (∃ t, exec .resetnAssert live = .next t) ∧
    ((live.setResetn true).resetn = true ∧ ∃ t, exec .resetnRelease (live.setResetn true) = .next t) ∧ control.kind = .control :=
  ⟨⟨_, rfl⟩, ⟨rfl, _, rfl⟩, rfl⟩

theorem wit_AdmissionQueuesAcrossResets : (live.resetn = false ∧ ∃ t, exec (.hostPortReset .hp1) live = .next t) ∧
    (askedReset.accepts .resetBridge ∧ askedReset.mgu.queue ≠ [] ∧ ∃ t, exec .resetBridge askedReset = .next t) ∧
    ∃ t, exec (.resetShelfPort 7) live = .next t :=
  ⟨⟨rfl, _, rfl⟩, ⟨⟨rfl, by decide +kernel⟩, by decide, _, rfl⟩, _, rfl⟩

theorem wit_FencesAndFencedRecordsHaveNamedWriters :
    (∃ t, exec .windowEnd (fenced live) = .next t ∧ writesFences .windowEnd = false) ∧
    (∃ t, exec .scrubVisit (fenced live) = .next t ∧ ((fenced live).sect 0).fenced = true) ∧
    (∃ t, exec (.loadExtents 16 0 []) (fenced live) = .next t ∧ (t.sect 0).fenced = true) ∧
    (∃ t, exec .windowEnd (fenced live) = .next t ∧ writesFencedRecords .windowEnd = false ∧ (fenced live).fencedAt 1023 = true) :=
  ⟨⟨_, rfl, rfl⟩, ⟨_, rfl, rfl⟩, ⟨_, rfl, rfl⟩, _, rfl, rfl, rfl⟩

theorem wit_ConditionsAndNoticesStand : (live.setCond (.powerFault 0)).condAt 0 = true ∧ (live.raise .mapFault).pendingNotice .mapFault = true :=
  ⟨by decide, by decide⟩

/-- Every chunk is CLEAN. -/
def allClean : Tbl ChunkState := (List.range 256).map (fun k => (k, .clean))

/-- The move whose pass has ended, with these chunks. -/
def passEnded (pass : Nat) (chunks : Tbl ChunkState) : Claim :=
  { moving .copying { firstPass with pass := pass, sweep := 256 } with chunks := chunks }

/-- The move whose target flush is due. -/
def flushDue : State := onSlot { moving .cutover { firstPass with timer := some 500 } with chunks := allClean }

theorem wit_DueSlotsAreFinished : (∀ i, i < 4 → live.slotDue i = false) ∧
    (∀ st ∈ [SlotState.retiring, .abandoning], (onSlot (moving st firstPass)).slotDue 0 = true) ∧
    (onSlot { zeroing with state := .ending }).slotDue 0 = true ∧
    (∀ c ∈ [passEnded 5 [], passEnded 1 allClean, passEnded 1 (allClean.drop 4), passEnded 1 [], passEnded 4 (allClean.drop 5)],
      (onSlot c).slotDue 0 = true ∧ (onSlot c).fre.reentry = [] ∧
      (let w := (onSlot c).setFre { (onSlot c).fre with reentry := [(0, .check6)] }; w.slotDue 0 = true ∧ w.fre.reentry ≠ [])) ∧
    ((onSlot (passEnded 5 [])).mgc.passLimit ≤ 5 ∧ (passEnded 5 []).dirtyCount ≠ 0) ∧
    ((passEnded 1 allClean).dirtyCount = 0 ∧ (passEnded 1 (allClean.drop 4)).dirtyCount ≤ 4 ∧ live.mgc.threshold = 4) ∧
    (4 < (passEnded 4 (allClean.drop 5)).dirtyCount ∧ 4 < live.mgc.passLimit ∧ live.mgc.passLimit ≤ 15) ∧
    (flushDue.slotDue 0 = true ∧ (flushDue.port 0).state = .online ∧ (flushDue.layout 0).ports = [0]) ∧
    ((flushDue.setPort 0 Port.initial).slotDue 0 = true ∧ ((flushDue.setPort 0 Port.initial).port 0).state ≠ .online) := by
  decide +kernel

/-! ### Admission -/

theorem wit_ArrivingCommandJoinsItsQueue :
    (live.resetn = false ∧ (live.queue .hp0).length < 128) ∧
    (let s := live.setQueue .hp0 (List.replicate 128 (cmd .flush 0 0 [])); s.resetn = false ∧ ¬ (s.queue .hp0).length < 128 ∧
      (s.queue .hp0).length ≤ 128 ∧ ∃ t, exec (.commandRecord .hp0 (cmd .flush 0 0 [])) s = .next t) :=
  ⟨⟨rfl, by decide +kernel⟩, rfl, by decide +kernel, by decide +kernel, _, rfl⟩

/-- What every clause about a command taken from HP0 asks. -/
def headOf (s : State) (r : CommandRecord) : Prop := s.resetn = false ∧ s.queue .hp0 = r :: [] ∧ s.headTurn .hp0 = true

/-- Checks 1 to 3 pass. -/
def passes3 (s : State) (r : CommandRecord) : Prop := s.check1 .hp0 r = true ∧ s.check2 r = true ∧ s.check3 .hp0 r = true

/-- The owner has not yet heard that volume 0 grew. -/
def grown (s : State) : State := s.setCau ⟨[(0, { owner with sizePending := 1 })]⟩

theorem wit_AdmissionAnswersAtTheFirstFailedCheck :
    (let r := cmd .read 0 0 []; headOf (waiting r) r ∧ (waiting r).check1 .hp0 r = false) ∧
    (let r := { cmd .read 0 1 [] with volume := 1 }
     headOf (waiting r) r ∧ (waiting r).check1 .hp0 r = true ∧ (waiting r).check2 r = false) ∧
    (let r := { cmd .read 0 1 [] with initiator := 8 }
     headOf (waiting r) r ∧ (waiting r).check1 .hp0 r = true ∧ (waiting r).check2 r = true ∧ (waiting r).check3 .hp0 r = false) ∧
    (let r := cmd .flush 0 0 []
     headOf (grown (waiting r)) r ∧ passes3 (grown (waiting r)) r ∧ (grown (waiting r)).sizePending .hp0 r = true) ∧
    (let r := cmd .read 524288 1 []
     headOf (waiting r) r ∧ passes3 (waiting r) r ∧ (waiting r).sizePending .hp0 r = false ∧ hasRange r.kind = true ∧
       (waiting r).volume 0 = some smallVolume ∧ smallVolume.capacity < r.start.toNat + r.length.toNat) ∧
    (let r := cmd .read 524287 1 []
     headOf (fenced (waiting r)) r ∧ passes3 (fenced (waiting r)) r ∧ (fenced (waiting r)).sizePending .hp0 r = false ∧
       (fenced (waiting r)).volume 0 = some smallVolume ∧ r.start.toNat + r.length.toNat ≤ smallVolume.capacity ∧
       (touchedExtents r.start.toNat r.length.toNat).any (fun x => (fenced (waiting r)).fencedAt (0 + x)) = true) := by
  unfold headOf passes3
  decide +kernel

/-- All sixteen diversions are in use. -/
def allDiverted (s : State) : State :=
  s.setDvq { s.dvq with entries := (List.range 16).map (fun n => (n, { entry := n + 100, time := 0, timer := 1 })) }

theorem wit_SizeControlAndFormatAreAdmitted :
    (let r := cmd .size 0 0 []; headOf (waiting r) r ∧ passes3 (waiting r) r ∧ (waiting r).volume 0 = some smallVolume) ∧
    (headOf (waiting control) control ∧ passes3 (waiting control) control ∧ (waiting control).mgu.load < 8) ∧
    (let s := (waiting control).setMgu ⟨[500, 501, 502, 503, 504, 505, 506, 507], none⟩
     headOf s control ∧ passes3 s control ∧ 8 ≤ s.mgu.load) ∧
    (let s := (waiting control).setMgu ⟨[500, 501, 502, 503, 504, 505, 506], some control⟩
     headOf s control ∧ passes3 s control ∧ 8 ≤ s.mgu.load) ∧
    (let r := cmd .format 0 0 []
     headOf (waiting r) r ∧ passes3 (waiting r) r ∧ (waiting r).sizePending .hp0 r = false ∧
       Tbl.lowestFree (waiting r).dvq.entries 16 0 = some 0) ∧
    (let r := cmd .format 0 0 []
     headOf (allDiverted (waiting r)) r ∧ passes3 (allDiverted (waiting r)) r ∧
       Tbl.lowestFree (allDiverted (waiting r)).dvq.entries 16 0 = none) := by
  unfold headOf passes3
  decide +kernel

/-- A command passes checks 1 to 5 and 7 as the head of HP0. -/
def readyIn (s : State) (r : CommandRecord) : Prop :=
  headOf s r ∧ passes3 s r ∧ s.sizePending .hp0 r = false ∧ s.diverts r = false

/-- One command waits on HP0 while a slot is at work. -/
def waitingOn (c : Claim) (r : CommandRecord) : State := (onSlot c).setQueue .hp0 [r]

/-- The drive of the small part is ABSENT. -/
def noDrive (s : State) : State := s.setSpc { s.spc with drives := [] }

/-- Volume 0 with both kinds in its divert set. -/
def divertAll (s : State) : State := s.setVolume 0 { smallVolume with divertDiscard := true, divertFlush := true }

theorem wit_DivertSetCommandsAreDiverted : ∀ r ∈ [cmd .discard 524287 1 [], cmd .flush 0 0 []],
    headOf (divertAll (waiting r)) r ∧ passes3 (divertAll (waiting r)) r ∧ (divertAll (waiting r)).sizePending .hp0 r = false ∧
      (divertAll (waiting r)).volume 0 = some { smallVolume with divertDiscard := true, divertFlush := true } ∧
      r.start.toNat + r.length.toNat ≤ smallVolume.capacity ∧
      (∀ x ∈ touchedExtents r.start.toNat r.length.toNat, (divertAll (waiting r)).fencedAt (0 + x) = false) ∧
      Tbl.lowestFree (divertAll (waiting r)).dvq.entries 16 0 = some 0 ∧ headOf (allDiverted (divertAll (waiting r))) r ∧
      passes3 (allDiverted (divertAll (waiting r))) r ∧ (allDiverted (divertAll (waiting r))).sizePending .hp0 r = false ∧
      Tbl.lowestFree (allDiverted (divertAll (waiting r))).dvq.entries 16 0 = none := by
  unfold headOf passes3
  decide +kernel

theorem wit_OneBlockCommandSendsOneFragment :
    (∀ r ∈ [cmd .read 0 1 [], cmd .write 262143 1 [3], cmd .discard 262143 1 []],
      readyIn (waiting r) r ∧ (waiting r).OneBlockReady r smallVolume 0) ∧
    (∀ r ∈ [cmd .read 0 1 [], cmd .write 262143 1 [3]],
      readyIn (waitingOn (moving .copying firstPass) r) r ∧ (waitingOn (moving .copying firstPass) r).OneBlockReady r smallVolume 0) ∧
    (let r := cmd .read 0 1 []
     readyIn (waitingOn (moving .cutover firstPass) r) r ∧ (waitingOn (moving .cutover firstPass) r).OneBlockReady r smallVolume 0) ∧
    (∀ r ∈ [cmd .read 262144 1 [], cmd .write 262144 1 [3], cmd .discard 262144 1 []],
      readyIn (waitingOn { zeroing with chunks := [(0, .clean)] } r) r ∧
        (waitingOn { zeroing with chunks := [(0, .clean)] } r).OneBlockReady r smallVolume 0) ∧
    (∀ r ∈ [cmd .read 0 1 [], cmd .write 0 1 [3]],
      let s := noDrive (waitingOn (moving .copying firstPass) r)
      readyIn s r ∧ s.OneBlockDraws r smallVolume 0 ∧ s.drivePresent (s.placeOf smallVolume r).port (s.placeOf smallVolume r).drive = false ∧
        (moving .copying firstPass).drain = []) := by
  refine ⟨?_, ?_, ?_, ?_, ?_⟩ <;> (unfold readyIn headOf passes3; try unfold State.OneBlockReady) <;> unfold State.OneBlockDraws <;> decide +kernel

theorem wit_RangesZerosAndFlushes :
    (let r := cmd .read 262144 2 []
     readyIn (waiting r) r ∧ (waiting r).volume 0 = some smallVolume ∧ r.start.toNat + r.length.toNat ≤ smallVolume.capacity ∧
       ∀ x ∈ touchedExtents r.start.toNat r.length.toNat, (waiting r).fencedAt (0 + x) = false ∧ ((waiting r).recAt (0 + x)).state = .zero) ∧
    (∀ r ∈ [cmd .read 262144 1 [], cmd .discard 262144 1 []],
      let s := waitingOn zeroing r
      readyIn s r ∧ s.volume 0 = some smallVolume ∧ r.start.toNat < smallVolume.capacity ∧ s.fencedAt 1 = false ∧
        (s.recAt 1).state = .zeroing ∧ s.chunkAt (s.recAt 1) 1 (s.placeOf smallVolume r).chunk ≠ .clean) ∧
    (let r := cmd .flush 0 0 []; readyIn (waiting r) r ∧ (waiting r).onlinePorts = [0]) ∧
    (∀ r ∈ [cmd .read 255 2 [], cmd .write 255 2 [1, 2], cmd .discard 511 258 []],
      let s := waiting r
      readyIn s r ∧ s.volume 0 = some smallVolume ∧ r.start.toNat + r.length.toNat ≤ smallVolume.capacity ∧
        (∀ x ∈ touchedExtents r.start.toNat r.length.toNat, s.fencedAt (0 + x) = false ∧ (s.recAt (0 + x)).state = .plain) ∧
        2 ≤ (s.cut 0 r.length.toNat r.start.toNat r.length.toNat).length ∧
        ∀ d ∈ (s.cut 0 r.length.toNat r.start.toNat r.length.toNat).map (s.pieceDraw (fragKindOf r.kind)),
          ∀ a ∈ d.addr, s.drivePresent d.port a.drive = true) := by
  unfold readyIn headOf passes3
  decide +kernel

/-- All four slots are claimed. -/
def allSlots (s : State) : State := (((s.setClaim 0 zeroing).setClaim 1 zeroing).setClaim 2 zeroing).setClaim 3 zeroing

theorem wit_WriteToZeroExtentClaimsASlot : ∀ r ∈ [cmd .write 262144 1 [3], cmd .discard 262144 1 []],
    (readyIn (waiting r) r ∧ (waiting r).volume 0 = some smallVolume ∧ r.start.toNat < smallVolume.capacity ∧
      (waiting r).fencedAt 1 = false ∧ ((waiting r).recAt 1).state = .zero ∧ (waiting r).freeSlotNo = some 0) ∧
    (readyIn (allSlots (waiting r)) r ∧ ((allSlots (waiting r)).recAt 1).state = .zero ∧ (allSlots (waiting r)).freeSlotNo = none) := by
  unfold readyIn headOf passes3
  decide +kernel

theorem wit_CommandsParkOnTheirSlot :
    (∀ r ∈ [cmd .write 0 1 [3], cmd .discard 0 1 []], ∀ hold ∈ [[], List.range 31, List.range 32],
      let c := { moving .cutover firstPass with hold := hold }
      let s := waitingOn c r
      readyIn s r ∧ s.volume 0 = some smallVolume ∧ r.start.toNat < smallVolume.capacity ∧ s.fencedAt 0 = false ∧
        (s.recAt 0).slot = some 0 ∧ (s.slot 0).claim = some c ∧ (s.recAt 0).state = .moving) ∧
    (∀ hold ∈ [[], List.range 32],
      let r := cmd .write 262144 1 [3]
      let c := { zeroing with hold := hold }
      let s := waitingOn c r
      readyIn s r ∧ s.volume 0 = some smallVolume ∧ s.fencedAt 1 = false ∧ (s.recAt 1).slot = some 0 ∧ (s.slot 0).claim = some c ∧
        (s.recAt 1).state = .zeroing ∧ c.chunk (s.placeOf smallVolume r).chunk ≠ .clean) := by
  unfold readyIn headOf passes3
  decide +kernel

/-- A command waits on the re-entry list. -/
def returned (r : CommandRecord) : State :=
  (live.setCommand 0 { record := r, port := .hp0, state := .waiting }).setFre
    { live.fre with commands := [(0, { record := r, port := .hp0, state := .waiting })], reentry := [(0, .check8)] }

/-- Every fragment of the pool is drawn. -/
def drained (s : State) : State :=
  s.setFre { s.fre with frags := (List.range 4096).map (fun n =>
    (n, { owner := none, kind := .flush, port := 0, addr := none, mark := none, timer := 1 })) }

theorem wit_ReentryServesTheOldestCommand :
    (let r := cmd .read 0 1 []
     (drained (returned r)).fre.reentry = (0, .check8) :: [] ∧ (drained (returned r)).freeFrags < (drained (returned r)).need r) ∧
    (let r := cmd .read 0 1 []
     (fenced (returned r)).need r ≤ (fenced (returned r)).freeFrags ∧ (fenced (returned r)).fencedFor r = true) ∧
    (let r := cmd .flush 0 0 []
     let s := (returned r).setPort 0 Port.initial; s.need r ≤ s.freeFrags ∧ s.onlinePorts = []) ∧
    (let r := cmd .flush 0 0 []; (returned r).need r ≤ (returned r).freeFrags ∧ (returned r).onlinePorts ≠ []) ∧
    (let r := cmd .write 0 1 [3]
     (returned r).need r ≤ (returned r).freeFrags ∧ (returned r).OneBlockReady r smallVolume 0 ∧ r.data.length ≤ 1 ∧
       (returned r).resetn = false ∧ (returned r).command 0 = some { record := r, port := .hp0, state := .waiting }) := by
  unfold State.OneBlockReady State.OneBlockDraws
  decide +kernel

/-- A command waits on the re-entry list while a slot is at work. -/
def returnedTo (c : Claim) (r : CommandRecord) : State :=
  (onSlot c).setFre { live.fre with commands := [(0, { record := r, port := .hp0, state := .waiting })], reentry := [(0, .check6)] }

theorem wit_ReturnedCommandsParkOrClaim :
    (∀ r ∈ [cmd .write 0 1 [3], cmd .discard 0 1 []], ∀ hold ∈ [[], List.range 32],
      let c := { moving .cutover firstPass with hold := hold }
      let s := returnedTo c r
      s.resetn = false ∧ s.need r ≤ s.freeFrags ∧ s.volume 0 = some smallVolume ∧ s.fencedAt 0 = false ∧ (s.recAt 0).slot = some 0 ∧
        (s.slot 0).claim = some c ∧ (s.recAt 0).state = .moving) ∧
    (∀ hold ∈ [[], List.range 32],
      let c := { zeroing with hold := hold }
      let s := returnedTo c (cmd .write 262144 1 [3])
      s.need (cmd .write 262144 1 [3]) ≤ s.freeFrags ∧ s.fencedAt 1 = false ∧ (s.recAt 1).slot = some 0 ∧ (s.slot 0).claim = some c ∧
        (s.recAt 1).state = .zeroing ∧ c.chunk (s.placeOf smallVolume (cmd .write 262144 1 [3])).chunk ≠ .clean) ∧
    (∀ r ∈ [cmd .write 262144 1 [3], cmd .discard 262144 1 []],
      ((returned r).need r ≤ (returned r).freeFrags ∧ (returned r).fencedAt 1 = false ∧ ((returned r).recAt 1).state = .zero ∧
        (returned r).freeSlotNo = some 0) ∧
      (allSlots (returned r)).need r ≤ (allSlots (returned r)).freeFrags ∧ ((allSlots (returned r)).recAt 1).state = .zero ∧
        (allSlots (returned r)).freeSlotNo = none) := by decide +kernel

theorem wit_HostPortResetRemovesThePortsCommands :
    ((returned (cmd .flush 0 0 [])).resetn = false ∧ (returned (cmd .flush 0 0 [])).TablesInOrder) ∧
    ((orphaned.resetn = false ∧ orphaned.mgu.orphan = some { control with data := [38] }) ∧ orphaned.TablesInOrder) ∧
    ((asked.resetn = false ∧ asked.mgu.orphan = none ∧ asked.mgu.queue = 0 :: [] ∧
      asked.command 0 = some { record := control, port := .hp0, state := .managing }) ∧ asked.TablesInOrder) := by
  refine ⟨⟨by decide +kernel, ?_⟩, ⟨by decide +kernel, ?_⟩, by decide +kernel, ?_⟩ <;> unfold State.TablesInOrder <;> decide +kernel

/-! ### Completions, slots and lanes -/

/-- A READ, WRITE or DISCARD of block 0 is ISSUED with its one fragment, number 0, in flight on port 0. -/
def issued (k : Kind) : State :=
  live.setFre { live.fre with
    commands := [(0, { record := cmd k 0 1 [], port := .hp0, state := .issued { outstanding := 1, failure := none, gathered := [], abort := false } })],
    frags := [(0, { owner := some 0, kind := fragKindOf k, port := 0, addr := some ⟨0, 0, 0, 1⟩, mark := none, timer := 8000 })],
    useCounts := [(0, 1)] }

/-- A READ of block 0 with `n` fragments outstanding, one of them number 4095. -/
def outstanding (n : Nat) (f : Fragment) : State :=
  live.setFre { live.fre with
    commands := [(0, { record := cmd .read 0 1 [], port := .hp0, state := .issued { outstanding := n, failure := none, gathered := [], abort := false } })],
    frags := [(4095, f)], useCounts := [(4095, 1)] }

theorem wit_HostFragmentCompletions :
    (live.resetn = false ∧ (live.port 7).state ≠ .online) ∧
    ((issued .read).resetn = false ∧ ((issued .read).port 0).state = .online ∧
      ∀ f, (issued .read).frag 0 = some f → f.port ≠ 0 ∨ (issued .read).fragUse 0 ≠ 255) ∧
    (∀ k ∈ [Kind.read, .write, .discard], ∃ f, (issued k).resetn = false ∧ (issued k).frag 0 = some f ∧ f.port = 0 ∧
      ((issued k).port 0).state = .online ∧ ∀ a ∈ f.addr, ([7] : List Block).length = a.count) ∧
    (∀ n ∈ [1, 2], ∀ owner ∈ [none, some 0], ∀ mark ∈ [none, some { slot := 3, index := 0, chunk := 255, write := false }],
      let f : Fragment := { owner := owner, kind := .read, port := 0, addr := some ⟨0, 0, 0, 1⟩, mark := mark, timer := 8000 }
      (outstanding n f).resetn = false ∧ (outstanding n f).frag 4095 = some f ∧ ((outstanding n f).port 0).state = .online ∧
        (outstanding n f).fragUse 4095 ≠ 0) ∧
    (live.resetn = false ∧ live.frag 4095 = none) ∧ (1 : Byte) ≠ 0 := by
  refine ⟨⟨rfl, by decide⟩, ⟨rfl, by decide, fun _ _ => .inr (by decide)⟩, ?_, by decide +kernel⟩
  intro k hk
  simp only [List.mem_cons, List.not_mem_nil, or_false] at hk
  obtain rfl | rfl | rfl := hk
  all_goals exact ⟨_, rfl, rfl, rfl, by decide, fun a h => by cases h; rfl⟩

/-- A read of the copy is in flight on lane 0. -/
def laneRead : LaneFrag := { seq := 0, phase := .reading, piece := 63, port := 0, drive := 0, dbn := 0, count := 16, timer := 8000 }

/-- The target flush of the move is in flight on port 0. -/
def flushFrag : FlushFrag := { slot := 0, seq := 0, port := 0, timer := 8000 }

/-- The move is in CUTOVER, with one target flush fragment outstanding. -/
def flushing : State :=
  let s := onSlot (moving .cutover { firstPass with flushOut := 1 })
  s.setMgc { s.mgc with flushFrags := [flushFrag] }

/-- Lane 0 with these fragments in flight. -/
def inFlightOn (fs : List LaneFrag) (s : State) : State := s.setLane 0 { s.lane 0 with frags := fs }

/-- What every clause about a lane fragment that completes by its record or its timer asks, for `laneRead`. -/
def laneReadIn (s : State) : Prop :=
  s.resetn = false ∧ (s.port 0).state = .online ∧ (s.lane 0).frags.find? (fun f => decide (f.piece = 63)) = some laneRead ∧
  (s.lane 0).frags.find? (fun g => decide (g.port = 0 ∧ g.seq = laneRead.seq ∧ g.phase = laneRead.phase ∧ g.piece = 63)) = some laneRead

/-- The target flush of the move with `n` fragments outstanding. -/
def awaiting (n : Nat) : State :=
  (onSlot (moving .cutover { firstPass with flushOut := n })).setMgc
    { (onSlot (moving .cutover { firstPass with flushOut := n })).mgc with flushFrags := [flushFrag] }

theorem wit_LaneAndFlushFragmentTimers :
    (let s := inFlightOn [laneRead] copying
     laneReadIn s ∧ (s.lane 0).frags.erase laneRead = [] ∧ (s.lane 0).state = .reading ∧ (s.lane 0).failure = none ∧ (s.lane 0).cancel = false ∧
       (s.lane 0).op = some .copy ∧ (s.lane 0).target = some ⟨0, 5⟩ ∧ (s.lane 0).chunk = some 0 ∧
       ∀ j, j < chunkBlocks / (s.layout 0).unit.blocks →
         s.drivePresent (translate (s.layout 0) 5 (0 * chunkBlocks + j * (s.layout 0).unit.blocks)).port
           (translate (s.layout 0) 5 (0 * chunkBlocks + j * (s.layout 0).unit.blocks)).drive = true) ∧
    (let s := inFlightOn [laneRead, { laneRead with piece := 0 }] copying; laneReadIn s ∧ (s.lane 0).frags.erase laneRead ≠ []) ∧
    (let s := inFlightOn [laneRead] (onLane .stopping .copy live)
     laneReadIn s ∧ (s.lane 0).frags.erase laneRead = [] ∧ (s.lane 0).state = .stopping) ∧
    (∀ n ∈ [1, 2], (awaiting n).resetn = false ∧ ((awaiting n).port 0).state = .online ∧
      (awaiting n).mgc.flushFrags.find? (fun f => decide (f.slot = 0 ∧ f.seq = 0 ∧ f.port = 0)) = some flushFrag ∧
      ((awaiting n).slot 0).claim = some (moving .cutover { firstPass with flushOut := n }) ∧ ((awaiting n).slot 0).flushSeq = 0) ∧
    (let s := (awaiting 0).setClaim 0 (moving .abandoning firstPass)
     s.resetn = false ∧ s.mgc.flushFrags.find? (fun f => decide (f.slot = 0 ∧ f.seq = 0 ∧ f.port = 0)) = some flushFrag ∧
       (s.slot 0).claim = some (moving .abandoning firstPass)) := by
  unfold laneReadIn
  decide +kernel

theorem wit_AbandonBeginsInOneEvent :
    (let s := onSlot (moving .retiring firstPass)
     ∀ c m, (s.slot 0).claim = some c → c.move = some m → c.state ≠ .copying ∧ c.state ≠ .cutover) ∧
    (copying.slot 0).claim = some ((moving .copying firstPass).setChunk 0 .copying) ∧
    ((onSlot (moving .cutover firstPass)).slot 0).claim = some (moving .cutover firstPass) := by
  refine ⟨?_, by decide +kernel, by decide +kernel⟩
  intro s c m h _
  cases h
  decide

theorem wit_LastFlushCompletionFlipsTheExtent :
    (flushing.resetn = false ∧ (flushing.port 0).state = .online ∧
      flushing.mgc.flushFrags.find? (fun f => decide (f.slot = 0 ∧ f.seq = 0 ∧ f.port = 0)) = some flushFrag ∧
      (flushing.slot 0).claim = some (moving .cutover { firstPass with flushOut := 1 }) ∧ (flushing.slot 0).flushSeq = 0 ∧
      (⟨0, 0⟩ : Loc) ≠ ⟨0, 5⟩) ∧ flushing.fencedAt 0 = false ∧ (fenced flushing).fencedAt 0 = true ∧
      ((fenced flushing).slot 0).claim = some (moving .cutover { firstPass with flushOut := 1 }) := by decide +kernel

theorem wit_ArbiterGrantsOneLane :
    (live.resetn = false ∧ ∀ i, i < 4 → live.eligible i = false) ∧
    (let s := onSlot (moving .copying firstPass)
     s.copiesInFlight < s.cpm.laneCount ∧ s.stopHold = false ∧ (s.lane 0).state = .free ∧ ∃ i, i < 4 ∧ s.eligible i = true) ∧
    (let s := onLane .reading .copy (onSlot (moving .copying firstPass))
     s.copiesInFlight < s.cpm.laneCount ∧ (s.lane 1).state = .free ∧ ∀ k, k < 1 → (s.lane k).state ≠ .free) := by decide +kernel

/-- The slot whose lane 0 is GRANTED. -/
def granted (c : Claim) : State := (onSlot c).setLane 0 { Lane.initial with state := .granted, slot := some 0 }

theorem wit_SlotTakesItsGrant :
    (let s := granted (moving .retiring firstPass); s.resetn = false ∧ s.candidate 0 = none) ∧
    (∀ c ∈ [moving .copying { firstPass with sweep := 255 }, moving .cutover firstPass, zeroing],
      let s := granted c
      (List.range 4).find? (fun l => decide ((s.lane l).state = .granted ∧ (s.lane l).slot = some 0)) = some 0 ∧
      (s.slot 0).claim = some c ∧ (s.candidate 0).isSome = true ∧
      ∀ k, s.candidate 0 = some k → ∀ j, j < 4 →
        s.drivePresent (translate (s.layout c.source.group) c.source.band (k * 1024 + j * 256)).port
          (translate (s.layout c.source.group) c.source.band (k * 1024 + j * 256)).drive = true) := by
  refine ⟨by decide +kernel, ?_⟩
  intro c hc
  simp only [List.mem_cons, List.not_mem_nil, or_false] at hc
  obtain rfl | rfl | rfl := hc
  · refine ⟨by decide +kernel, by decide +kernel, by decide +kernel, fun k hk => ?_⟩
    have : k = 255 := by
      have h : (granted (moving .copying { firstPass with sweep := 255 })).candidate 0 = some 255 := by decide +kernel
      exact Option.some.inj (hk.symm.trans h)
    subst this; decide +kernel
  · refine ⟨by decide +kernel, by decide +kernel, by decide +kernel, fun k hk => ?_⟩
    have : k = 0 := by
      have h : (granted (moving .cutover firstPass)).candidate 0 = some 0 := by decide +kernel
      exact Option.some.inj (hk.symm.trans h)
    subst this; decide +kernel
  · refine ⟨by decide +kernel, by decide +kernel, by decide +kernel, fun k hk => ?_⟩
    have : k = 0 := by
      have h : (granted zeroing).candidate 0 = some 0 := by decide +kernel
      exact Option.some.inj (hk.symm.trans h)
    subst this; decide +kernel

/-- A zero-fill of chunk 0 that is not the last has written all; two WRITEs are held, one of which waits for that chunk alone. -/
def oneFill : State :=
  let w := fun start => ({ record := cmd .write start 1 [3], port := .hp0, state := .parked } : Command)
  ((onLane .writing .zeroFill (onSlot { zeroing with chunks := [(0, .copying)], hold := [0, 1] })).setCommand 0 (w 262144)).setCommand 1
    (w 263168)

/-- The zero-fill of chunk 0, the last one left, has written all. -/
def lastFill : State :=
  onLane .writing .zeroFill (onSlot { zeroing with chunks := (0, .copying) :: (List.range 255).map (fun k => (k + 1, .clean)) })

theorem wit_FinishedCopyReachesItsSlot :
    (live.resetn = false ∧ (live.lane 3).state ≠ .reading ∧ (live.lane 3).state ≠ .writing) ∧
    (∀ st ∈ [LaneState.reading, .writing], ∀ c ∈ [moving .copying firstPass, moving .cutover firstPass, moving .abandoning firstPass],
      let s := onLane st .copy (onSlot c)
      (s.lane 0).frags = [] ∧ (s.lane 0).state = st ∧ (s.lane 0).slot = some 0 ∧ (s.lane 0).chunk = some 0 ∧
        (s.slot 0).claim = some c ∧ (s.lane 0).failure.isSome = false ∧
        ((s.setLane 0 { s.lane 0 with failure := some .timeout }).lane 0).failure.isSome = true) ∧
    (∃ c, (lastFill.slot 0).claim = some c ∧ c.state = .zeroing ∧ (lastFill.lane 0).state = .writing ∧
      (lastFill.lane 0).op = some .zeroFill ∧ c.hold = [] ∧ (c.setChunk 0 .clean).dirtyCount = 0 ∧ lastFill.fencedAt c.index = false) ∧
    (∃ c, (oneFill.slot 0).claim = some c ∧ c.state = .zeroing ∧ (oneFill.lane 0).frags = [] ∧ (oneFill.lane 0).state = .writing ∧
      (oneFill.lane 0).op = some .zeroFill ∧ (oneFill.lane 0).failure = none ∧ (c.setChunk 0 .clean).dirtyCount ≠ 0 ∧
      c.hold.filter (fun e => (oneFill.waitingChunks c e).all (fun j => decide ((c.setChunk 0 .clean).chunk j = .clean))) = [0]) ∧
    ((onLane .writing .copy live).slot 0).claim = none := by
  refine ⟨by decide, by decide +kernel, ⟨_, rfl, by decide, by decide, by decide, by decide, by decide +kernel, by decide +kernel⟩,
    ⟨_, rfl, by decide, by decide, by decide, by decide, by decide, by decide +kernel, by decide +kernel⟩, by decide⟩

theorem wit_CutoverExpiryAndReportsReachTheSlot :
    (∀ c m, (live.slot 0).claim = some c → c.move = some m → c.state ≠ .cutover ∨ m.timer = none) ∧
    (let m : Move := { firstPass with attempts := 1, timer := some 0 }
     ((onSlot (moving .cutover m)).slot 0).claim = some (moving .cutover m) ∧ m.attempts + 1 < 3) ∧
    (let m : Move := { firstPass with attempts := 2, timer := some 0 }
     ((onSlot (moving .cutover m)).slot 0).claim = some (moving .cutover m) ∧ 3 ≤ m.attempts + 1) ∧
    ((3, 7) ∉ live.mgc.exitReports ∧ 3 ∉ live.mgc.fenceReports) ∧
    (let s := (onSlot (moving .copying firstPass)).setMgc { (onSlot (moving .copying firstPass)).mgc with
        exitReports := [(0, 0)], fenceReports := [0] }
     (0, 0) ∈ s.mgc.exitReports ∧ 0 ∈ s.mgc.fenceReports ∧ (s.slot 0).claim = some (moving .copying firstPass) ∧
       ∃ x ∈ (s.layout 0).members, x.port = 0) ∧
    (let s := (fenced (onSlot zeroing)).setMgc { (onSlot zeroing).mgc with exitReports := [(0, 0)], fenceReports := [0] }
     (0, 0) ∈ s.mgc.exitReports ∧ 0 ∈ s.mgc.fenceReports ∧ (s.slot 0).claim = some zeroing ∧ s.fencedAt 1 = true) := by
  refine ⟨fun c m h _ => (by cases h), by decide +kernel, by decide +kernel, by decide, by decide +kernel, by decide +kernel⟩

/-- A command of a kind waits in diversion 15. -/
def diverted (k : Kind) : State :=
  (live.setCommand 0 { record := cmd k 0 1 [], port := .hp0, state := .diverted }).setDvq
    { Dvq.reset with entries := [(15, { entry := 0, time := 0, timer := 0 })], useCounts := [(15, 1)], order := [15] }

theorem wit_DiversionsEndOnce :
    (live.resetn = false ∧ Tbl.find live.dvq.entries 15 = none ∧ live.takes (.resolve 15 0 .pass) = true ∧
      live.takes (.resolve 15 0 (.complete 10 none none none)) = true) ∧
    (∀ k ∈ [Kind.discard, .flush, .format], (diverted k).resetn = false ∧
      Tbl.find (diverted k).dvq.entries 15 = some { entry := 0, time := 0, timer := 0 } ∧
      (diverted k).command 0 = some { record := cmd k 0 1 [], port := .hp0, state := .diverted } ∧
      (0 : Byte) ≠ Tbl.getD (diverted k).dvq.useCounts 15 0 ∧ (1 : Byte) = Tbl.getD (diverted k).dvq.useCounts 15 0 ∧
      (diverted k).takes (.resolve 15 1 .pass) = true ∧ (diverted k).takes (.resolve 15 0 (.complete 10 none none none)) = true) ∧
    HostStatus.ofCode? 10 = some .aborted ∧ HostStatus.ofCode? 9 = some .deviceError ∧
    ((some 0 : Option Nat) = some 0 ∧ 0 < (cmd .discard 0 1 []).start.toNat + (cmd .discard 0 1 []).length.toNat ∧
      (some 3 : Option Nat).bind reasonOf? = some .timeout) := by decide +kernel

theorem wit_ScrubDiagnosticAndMapMemory :
    (((fenced live).sect 0).fenced = true ∧ (State.reset.sect 0).check = sectionCheck State.reset.lmu.extents 0 ∧
      ∀ x, State.reset.msb.diagnostic ≠ some (0, x)) ∧
    (let s := live.setMsb { live.msb with diagnostic := some (0, 3) }
     s.msb.position < 64 ∧ (s.sect 0).fenced = false ∧ ∃ x, s.msb.diagnostic = some (0, x)) ∧
    (let s := live.setSect 63 { Section.initial 63 with check := sectionCheck live.lmu.extents 63 + 1 }
     (s.sect 63).fenced = false ∧ (s.sect 63).check ≠ sectionCheck s.lmu.extents 63) ∧
    (live.accepts (.checkDiagnostic 64 1) ∧ live.accepts (.checkDiagnostic 63 4) ∧ live.accepts (.checkDiagnostic 63 0) ∧
      live.accepts (.checkDiagnostic 63 3) ∧ (fenced live).accepts (.checkDiagnostic 0 3) ∧ ((fenced live).sect 0).fenced = true ∧
      (live.sect 63).fenced = false) := by
  refine ⟨⟨rfl, rfl, fun _ h => (by cases h)⟩, ⟨by decide, rfl, _, rfl⟩, ⟨rfl, ?_⟩, ⟨rfl, rfl⟩, ⟨rfl, rfl⟩, ⟨rfl, rfl⟩, ⟨rfl, rfl⟩, ⟨rfl, rfl⟩, rfl, rfl⟩
  intro h
  have : sectionCheck live.lmu.extents 63 + 1 = sectionCheck live.lmu.extents 63 := h
  generalize sectionCheck live.lmu.extents 63 = x at this
  bv_omega

/-! ### Shelf ports -/

/-- Port 0 in a state. -/
def portIn (x : Port) : State := live.setPort 0 x

theorem wit_CurrentFaultTripsThePort :
    ((portIn { upPort with faultInput := true }).port 0).faultInput = true ∧
    ((live.port 0).faultInput = false ∧ live.resetn = false ∧ (live.port 7).output = false ∧ (live.port 7).faultInput = false) ∧
    ((live.port 0).output = true ∧ (live.setSpc { live.spc with mode := .unswitched }).spc.mode = .unswitched ∧
      ((live.setSpc { live.spc with mode := .unswitched }).port 0).output = true) ∧
    (live.spc.mode ≠ .unswitched ∧ ((portIn { upPort with state := .faulted, cause := some .linkLoss }).port 0).state ≠ .online ∧
      ((portIn { upPort with state := .faulted, cause := some .linkLoss }).port 0).output = true) := by decide +kernel

theorem wit_PortComesUpThroughLinking :
    (live.resetn = false ∧ (live.port 0).state ≠ .powering ∧ (live.port 0).state ≠ .linking) ∧
    (let s := portIn upPort.powered; (s.port 0).state = .powering ∧ (s.port 0).settle.isSome = true) ∧
    (let s := portIn { upPort with state := .linking, link := some 0 }; (s.port 0).state = .linking ∧ (s.port 0).link.isSome = true) ∧
    ((List.replicate 23 (⟨1, 5⟩ : SlotEntry)).length ≠ 24 ∧ (∃ e ∈ [(⟨2, 5⟩ : SlotEntry)], 1 < e.presence.toNat) ∧
      (List.replicate 24 (⟨1, 5⟩ : SlotEntry)).length = 24 ∧ ∀ e ∈ List.replicate 24 (⟨1, 5⟩ : SlotEntry), e.presence.toNat ≤ 1) ∧
    ((issued .read).resetn = false ∧ ((issued .read).port 0).state = .online ∧
      (List.replicate 24 (⟨0, 5⟩ : SlotEntry)).length = 24 ∧ ∀ e ∈ List.replicate 24 (⟨0, 5⟩ : SlotEntry), e.presence.toNat ≤ 1) := by
  decide +kernel

theorem wit_FragmentsLeaveWithTheirDriveOrPort :
    ((live.port 1).state ≠ .online ∧ 23 < (24 : Byte).toNat ∧ 1 < (2 : Byte).toNat ∧ live.resetn = false) ∧
    ((issued .read).resetn = false ∧ ((issued .read).port 0).state = .online ∧ (23 : Byte).toNat ≤ 23) ∧
    ((awaiting 1).resetn = false ∧ ((awaiting 1).port 0).state = .online ∧ (awaiting 1).awaits flushFrag = true) ∧
    ((inFlightOn [laneRead] copying).resetn = false ∧ ((inFlightOn [laneRead] copying).port 0).state = .online) := by decide +kernel

theorem wit_OnlinePortsLeaveByPower :
    (let s := awaiting 1
     (s.port 0).faultInput = false ∧ s.resetn = false ∧ (s.port 0).output = true ∧ s.spc.mode ≠ .unswitched ∧ (s.port 0).state = .online) ∧
    (∀ i ∈ [Instr.setPowerMode 1, .powerShelves 0, .powerPort 0 0 0, .resetShelfPort 0], (awaiting 1).accepts i) ∧
    (awaiting 1).spc.mode = .individual ∧ ((awaiting 1).setSpc { (awaiting 1).spc with mode := .global }).demand 0 = false ∧
    ((portIn upPort.powered).port 0).output = true ∧ ((portIn upPort.powered).port 0).state ≠ .online ∧
    (portIn upPort.powered).accepts (.resetShelfPort 0) := by
  unfold State.accepts
  decide +kernel

theorem wit_LosingStatesAreInOrder :
    (issued .read).TablesInOrder ∧ (awaiting 1).TablesInOrder ∧ (inFlightOn [laneRead] copying).TablesInOrder := by
  refine ⟨?_, ?_, ?_⟩ <;> unfold State.TablesInOrder <;> decide +kernel

theorem wit_PowerRequestsWorkOutEveryPort :
    (modeOf? 2 = some .individual ∧ live.accepts (.setPowerMode 2)) ∧ live.accepts (.powerShelves 1) ∧
    (live.accepts (.powerPort 7 1 1) ∧ live.spc.mode = .individual ∧
      (live.setSpc { live.spc with mode := .global }).spc.mode ≠ .individual ∧
      (live.setSpc { live.spc with mode := .global }).accepts (.powerPort 7 1 1)) ∧
    (live.accepts (.resetShelfPort 0) ∧ (live.port 0).output = true ∧ (live.port 7).output = false ∧ (live.port 7).state ≠ .faulted ∧
      ((live.setPort 7 Port.initial.tripped).port 7).output = false ∧ ((live.setPort 7 Port.initial.tripped).port 7).state = .faulted ∧
      (live.setPort 7 Port.initial.tripped).accepts (.resetShelfPort 7)) := by
  unfold State.accepts
  decide +kernel

/-! ### Requests -/

theorem wit_GroupRequestsMoveTheDescriptor :
    (live.accepts (.loadGroup 255 16 1 4096 [⟨7, 23, 2 ^ 48 - 1⟩]) ∧ StripeUnit.ofNat? 16 = some .u16 ∧
      (∀ m ∈ [(⟨7, 23, 2 ^ 48 - 1⟩ : MemberArg)], m.port ≤ 7 ∧ m.drive ≤ 23 ∧ m.base < 2 ^ 48) ∧ live.group 255 = none) ∧
    (let s := live.setGroup 255 ⟨false, { oneDrive with members := [⟨0, 0, 8 * oneDrive.span⟩] }⟩
     s.accepts (.activateGroup 255) ∧ s.group 255 = some ⟨false, { oneDrive with members := [⟨0, 0, 8 * oneDrive.span⟩] }⟩ ∧
       (∀ m ∈ [(⟨0, 0, 8 * oneDrive.span⟩ : Member)], s.drivePresent m.port m.drive = true ∧
         m.base + 8 * oneDrive.span ≤ (s.drive m.port m.drive).capacity) ∧
       ∀ y ∈ s.lmu.groups, y.1 ≠ 255 → y.2.active = true → ∀ m ∈ [(⟨0, 0, 8 * oneDrive.span⟩ : Member)], ∀ n ∈ y.2.layout.members,
         m.port = n.port → m.drive = n.drive →
           m.base + 8 * oneDrive.span ≤ n.base ∨ n.base + y.2.layout.bands * y.2.layout.span ≤ m.base) ∧
    (let s := live.setLmu { live.lmu with bands := [(65536, .target 0)] }
     s.accepts (.deactivateGroup 0) ∧ s.group 0 = some ⟨true, oneDrive⟩ ∧ ∀ h ∈ s.lmu.bands, h.1 / 65536 ≠ 0) := by
  unfold State.accepts
  decide +kernel

theorem wit_VolumeRequestsWriteTheEntry :
    (live.accepts (.loadVolume 15 65535 1 3) ∧ live.volume 15 = none ∧
      ∀ y ∈ live.lmu.volumes, y.1 ≠ 15 → 65535 + 1 ≤ y.2.mapBase ∨ y.2.mapBase + y.2.reserved ≤ 65535) ∧
    (let s := live.setVolume 0 { smallVolume with state := .offline }
     s.accepts (.loadVolume 0 0 2 0) ∧ s.volume 0 = some { smallVolume with state := .offline }) ∧
    (live.accepts (.setVolumeState 0 0) ∧ live.volume 0 = some smallVolume ∧ ∀ i, i < 4 → (live.slot i).claim = none) ∧
    ((onSlot zeroing).accepts (.setVolumeState 0 0) ∧ (onSlot zeroing).volume 0 = some smallVolume ∧
      ((onSlot zeroing).slot 0).claim = some zeroing ∧ zeroing.volume = 0) := by
  unfold State.accepts
  decide +kernel

/-- Volume 0 is OFFLINE. -/
def offline : State := live.setVolume 0 { smallVolume with state := .offline }

theorem wit_LoadExtentsWritesRecordsAndHolds :
    let rs : List ExtentArg := [⟨0, 2, 1, 9, 9⟩, ⟨0, 7, 0, 9, 9⟩]
    offline.accepts (.loadExtents 0 1 rs) ∧ offline.TablesInOrder ∧ 1 + rs.length ≤ smallVolume.reserved ∧ 1 ≤ smallVolume.count ∧
      offline.volume 0 = some { smallVolume with state := .offline } ∧
      (∀ r ∈ rs, r.state ≤ 1 ∧ offline.locationOk (argLoc r) = true ∧ r.band < 65536 ∧
        (offline.dropRecordHolds (0 + 1) rs.length).holder (argLoc r) = none) ∧
      (rs.map argLoc).Nodup ∧
      ∀ j, j < 3 → 0 + 1 ≤ j → offline.fencedAt j = false ∧ ((offline.recAt j).state = .zero ∨ (offline.recAt j).state = .plain) ∧
        ∀ i, i < 4 → (offline.slot i).claim = none := by
  unfold State.accepts
  exact ⟨by decide +kernel, by unfold State.TablesInOrder; decide +kernel, by decide +kernel⟩

/-- R10: a record is loaded onto its own location, and two exchange theirs. -/
theorem wit_LoadedRecordsKeepOrExchangeTheirLocations :
    ∀ rs ∈ [[⟨0, 0, 1, 9, 9⟩, ⟨0, 1, 0, 9, 9⟩], [⟨0, 1, 1, 9, 9⟩, ⟨0, 0, 0, 9, 9⟩]],
      (∀ r ∈ rs, (offline.holder (argLoc r)).isSome = true ∧ (offline.dropRecordHolds 0 rs.length).holder (argLoc r) = none) ∧
        loadExtentsRefusal 0 0 rs offline = none := by decide +kernel

theorem wit_ReloadEndsTheFence :
    let rs : List ExtentArg := [⟨0, 0, 1, 9, 9⟩, ⟨0, 1, 0, 9, 9⟩]
    (fenced offline).accepts (.loadExtents 0 0 rs) ∧ loadExtentsRefusal 0 0 rs (fenced offline) = none ∧
      (fenced offline).volume 0 = some { smallVolume with state := .offline } ∧ ((fenced offline).sect 0).fenced = true ∧
      (fenced offline).accepts (.loadExtents 0 0 [⟨0, 0, 1, 9, 9⟩]) ∧
      loadExtentsRefusal 0 0 [⟨0, 0, 1, 9, 9⟩] (fenced offline) = none := by
  unfold State.accepts
  decide +kernel

theorem wit_InitiatorRequestsWriteOneEntry :
    live.InitiatorsSound ∧ portOf? 0 = some .hp0 ∧ portOf? 1 = some .hp1 ∧
    (live.accepts (.loadInitiator 7 0 (List.replicate 16 0) 0) ∧ Tbl.find live.cau.initiators 0 = some owner ∧ owner.id = 7 ∧ owner.port = .hp0) ∧
    (live.accepts (.loadInitiator 8 1 (List.replicate 16 2) 1) ∧ Tbl.find live.cau.initiators 1 = none ∧
      (∀ k, k < 1 → (Tbl.find live.cau.initiators k).isSome = true) ∧
      ∀ k e, Tbl.find live.cau.initiators k = some e → ¬ (e.id = 8 ∧ e.port = .hp1)) ∧
    live.accepts (.dropInitiator 7 0) ∧ live.accepts (.dropInitiator 8 1) := by
  refine ⟨by unfold State.InitiatorsSound; decide, rfl, rfl, ⟨⟨rfl, rfl⟩, rfl, rfl, rfl⟩, ⟨⟨rfl, rfl⟩, rfl, by decide, ?_⟩, ⟨rfl, rfl⟩, ⟨rfl, rfl⟩⟩
  exact found (fun _ (e : Initiator) => ¬ (e.id = 8 ∧ e.port = .hp1)) _ (by decide)

theorem wit_GrowVolumeAppendsZeroExtents :
    live.accepts (.growVolume 0 [(0, 2), (0, 7)]) ∧ live.volume 0 = some smallVolume ∧ smallVolume.count + 2 ≤ smallVolume.reserved ∧
      (∀ l ∈ [(0, 2), (0, 7)], l.1 ≤ 255 ∧ l.2 < 65536 ∧ live.locationOk ⟨l.1, l.2⟩ = true ∧ live.holder ⟨l.1, l.2⟩ = none) ∧
      [((0 : Nat), (2 : Nat)), (0, 7)].Nodup ∧ ∀ n, n < 64 → (live.sect n).fenced = false := by
  unfold State.accepts
  decide +kernel

theorem wit_MigrateClaimsRepointsOrRestarts :
    (live.accepts (.migrate 0 0 0 7 1) ∧ live.volume 0 = some smallVolume ∧ 0 < smallVolume.count ∧ (1 : BitVec 16) = (live.recAt 0).gen ∧
      live.locationOk ⟨0, 7⟩ = true ∧ live.fencedAt 0 = false ∧ live.holder ⟨0, 7⟩ = none ∧ (live.recAt 0).state = .plain ∧
      live.freeSlotNo = some 0) ∧
    (live.accepts (.migrate 0 1 0 7 1) ∧ (1 : BitVec 16) = (live.recAt 1).gen ∧ (live.recAt 1).state = .zero ∧
      live.holder ⟨0, 1⟩ = some (.record 1)) ∧
    (copying.accepts (.migrate 0 0 0 5 1) ∧ (1 : BitVec 16) = (copying.recAt 0).gen ∧ (copying.recAt 0).state = .moving ∧
      (copying.recAt 0).slot = some 0 ∧ (copying.slot 0).claim = some ((moving .copying firstPass).setChunk 0 .copying) ∧
      copying.fencedAt 0 = false ∧ copying.locationOk ⟨0, 5⟩ = true ∧ copying.holder ⟨0, 5⟩ = some (.target 0)) := by
  unfold State.accepts
  decide +kernel

theorem wit_AbortPauseAndResumeActOnTheSlot :
    (copying.accepts (.abortMigration 0 0 1) ∧ copying.volume 0 = some smallVolume ∧
      (∀ k d, k < 4 → (copying.slot k).claim = some d → d.state = .retiring → ¬ (d.volume = 0 ∧ d.extent = 0)) ∧
      (1 : BitVec 16) = (copying.recAt 0).gen ∧ copying.fencedAt 0 = false ∧ (copying.recAt 0).state = .moving ∧
      (copying.recAt 0).slot = some 0 ∧ (copying.slot 0).claim = some ((moving .copying firstPass).setChunk 0 .copying)) ∧
    (let s := onSlot (moving .retiring firstPass)
     s.accepts (.abortMigration 0 0 0) ∧ (s.slot 0).claim = some (moving .retiring firstPass) ∧ s.volume 0 = some smallVolume) ∧
    (copying.accepts (.pauseSlot 0) ∧ copying.accepts (.resumeSlot 0) ∧ (copying.slot 0).claim.isSome = true) ∧
    (live.accepts (.pauseSlot 3) ∧ live.accepts (.resumeSlot 3) ∧ (live.slot 3).claim = none) := by
  refine ⟨⟨⟨rfl, rfl⟩, rfl, ?_, by decide +kernel, by decide +kernel, by decide +kernel, by decide +kernel, by decide +kernel⟩,
    ⟨⟨rfl, rfl⟩, by decide +kernel, rfl⟩, ⟨⟨rfl, rfl⟩, ⟨rfl, rfl⟩, by decide +kernel⟩, ⟨rfl, rfl⟩, ⟨rfl, rfl⟩, rfl⟩
  intro k d hk h hd
  rcases k with _ | k
  · cases h; cases hd
  · cases h

theorem wit_TuningRequestsClampTheirValues :
    live.accepts (.setCopyPolicy (some 0) (some 1) (some 65) (some 16) (some 2559)) ∧ (∀ m, (some 1 : Option Nat) = some m → m ≤ 1) ∧
    live.accepts (.setCopyPolicy none (some 2) none none none) ∧ live.accepts (.setGovernor (some 9) (some 65535)) ∧
    live.accepts (.setFragmentTimeout (some 61)) ∧ live.accepts (.setScrub none) ∧
    (live.accepts (.setDivert (some (0, 3)) none) ∧ live.volume 0 = some smallVolume) ∧ live.accepts (.setDivert none (some 0)) := by
  unfold State.accepts
  refine ⟨by decide, fun m h => ?_, by decide⟩
  cases h
  exact Nat.le_refl 1

theorem wit_MaskAndClearRequestsApplyTheirItems :
    (live.accepts (.setNoticeMask [⟨9, 1⟩, ⟨255, 0⟩]) ∧ ∀ x ∈ [(⟨9, 1⟩ : MaskItem), ⟨255, 0⟩], (x.name < 10 ∨ x.name = 255) ∧ x.masked ≤ 1) ∧
    (live.accepts (.setNoticeMask [⟨10, 1⟩]) ∧ ∃ x ∈ [(⟨10, 1⟩ : MaskItem)], ¬ ((x.name < 10 ∨ x.name = 255) ∧ x.masked ≤ 1)) ∧
    (live.accepts (.setFaultMasks [⟨6, 1, 1⟩, ⟨255, 0, 0⟩] [⟨3, 1⟩]) ∧
      (∀ x ∈ [(⟨6, 1, 1⟩ : FaultMaskItem), ⟨255, 0, 0⟩], namedConds x.cond x.inst ≠ [] ∧ x.masked ≤ 1) ∧
      ∀ x ∈ [(⟨3, 1⟩ : MaskItem)], (x.name < 4 ∨ x.name = 255) ∧ x.masked ≤ 1) ∧
    (live.accepts (.setFaultMasks [] []) ∧
      (live.accepts (.setFaultMasks [⟨4, 64, 0⟩] []) ∧ ∃ x ∈ [(⟨4, 64, 0⟩ : FaultMaskItem)], namedConds x.cond x.inst = []) ∧
      (live.accepts (.setFaultMasks [⟨4, 63, 2⟩] []) ∧ ∃ x ∈ [(⟨4, 63, 2⟩ : FaultMaskItem)], 1 < x.masked) ∧
      (live.accepts (.setFaultMasks [] [⟨4, 1⟩]) ∧ ∃ x ∈ [(⟨4, 1⟩ : MaskItem)], ¬ ((x.name < 4 ∨ x.name = 255) ∧ x.masked ≤ 1))) ∧
    (live.accepts (.clearFaults [⟨4, 63⟩, ⟨255, 0⟩]) ∧ ∀ x ∈ [(⟨4, 63⟩ : FaultItem), ⟨255, 0⟩], namedConds x.cond x.inst ≠ []) ∧
    (live.accepts (.clearFaults [⟨4, 64⟩]) ∧ ∃ x ∈ [(⟨4, 64⟩ : FaultItem)], namedConds x.cond x.inst = []) := by
  unfold State.accepts
  decide +kernel

theorem wit_ReadNoticesReturnsAndClears : live.accepts .readNotices ∧ (live.raise .mapFault).accepts .readNotices := ⟨⟨rfl, rfl⟩, rfl, rfl⟩

theorem wit_ReadsChangeNothing :
    (live.accepts (.readGroup 0 7 1) ∧ ∃ x, live.group 0 = some x ∧ x.active = true ∧ 7 + 1 ≤ x.layout.bands) ∧
    live.accepts (.readVolume 15) ∧ (live.accepts (.readExtents 0 1 1) ∧ live.volume 0 = some smallVolume ∧ 1 + 1 ≤ smallVolume.count) ∧
    live.accepts (.readInitiators 63 1) ∧ live.accepts (.readSlot 3) ∧ live.accepts .readSample ∧ live.accepts .readDiversions ∧
    live.accepts (.readShelf 7) ∧ live.accepts .readFaults ∧ live.accepts (.unknownRequestCode 39) := by
  unfold State.accepts
  exact ⟨⟨by decide, _, rfl, rfl, by decide⟩, by decide⟩

theorem wit_ResetBridgeStopsTheWork :
    ((live.accepts .resetBridge ∧ live.mgu.orphan = none) ∧ live.TablesInOrder) ∧ (askedReset.accepts .resetBridge ∧ askedReset.TablesInOrder) ∧
    ((orphaned.accepts .resetBridge ∧ orphaned.mgu.orphan.isSome = true) ∧ orphaned.TablesInOrder) := by
  refine ⟨⟨?_, ?_⟩, ⟨?_, ?_⟩, ?_, ?_⟩ <;> (first | unfold State.TablesInOrder | unfold State.accepts) <;> decide +kernel

end Sys2Proof.Machine
end

section
/-! PROOFS. The Group Table in the LMU (R13, R18): one lemma for each operation that may write the LMU, saying that its group descriptors
stay. Of an operation that leaves the whole LMU alone, the `_keeps` lemma says it already. Only `setGroup` writes a descriptor, and only
the effects of LOAD, ACTIVATE and DEACTIVATE GROUP call it. -/

namespace Sys2Proof.Machine

/-! ### Writes of the LMU -/

/-- A fold keeps the Group Table if each of its steps does. -/
theorem foldl_groups {β : Type} (g : State → β → State) (l : List β) (s : State) (h : ∀ t x, (g t x).lmu.groups = t.lmu.groups) :
    (l.foldl g s).lmu.groups = s.lmu.groups := by
  induction l generalizing s with
  | nil => rfl
  | cons x l ih => rw [List.foldl_cons, ih, h]

@[simp] theorem State.setVolume_groups (s : State) (v : Nat) (x : Volume) : (s.setVolume v x).lmu.groups = s.lmu.groups := rfl

@[simp] theorem State.hold_groups (s : State) (l : Loc) (h : Holder) : (s.hold l h).lmu.groups = s.lmu.groups := rfl

@[simp] theorem State.release_groups (s : State) (l : Loc) (h : Holder) : (s.release l h).lmu.groups = s.lmu.groups := by
  unfold State.release
  split <;> rfl

@[simp] theorem State.storeRec_groups (s : State) (i : Nat) (r : ExtRec) : (s.storeRec i r).lmu.groups = s.lmu.groups := rfl

@[simp] theorem State.dropRecordHolds_groups (s : State) (i n : Nat) : (s.dropRecordHolds i n).lmu.groups = s.lmu.groups := rfl

@[simp] theorem State.releaseSlotHolds_groups (s : State) : s.releaseSlotHolds.lmu.groups = s.lmu.groups := rfl

@[simp] theorem State.writeRec_groups (s : State) (i : Nat) (r : ExtRec) : (s.writeRec i r).lmu.groups = s.lmu.groups := by
  unfold State.writeRec
  split <;> simp

@[simp] theorem State.storeRun_groups (s : State) (i : Nat) (rs : List ExtRec) : (s.storeRun i rs).lmu.groups = s.lmu.groups := by
  induction rs generalizing s i with
  | nil => rfl
  | cons r rs ih => rw [State.storeRun, ih, State.storeRec_groups]

@[simp] theorem State.writeRun_groups (s : State) (i : Nat) (rs : List ExtRec) : (s.writeRun i rs).lmu.groups = s.lmu.groups := by
  simp [State.writeRun]

@[simp] theorem State.holdRun_groups (s : State) (i : Nat) (ls : List Loc) : (s.holdRun i ls).lmu.groups = s.lmu.groups := by
  induction ls generalizing s i with
  | nil => rfl
  | cons l ls ih => rw [State.holdRun, ih, State.hold_groups]

@[simp] theorem State.tryUnfence_groups (s : State) (k : Nat) : (s.tryUnfence k).lmu.groups = s.lmu.groups := by
  simp only [State.tryUnfence]
  split
  · simp only [State.setSect_keeps]
    rw [foldl_groups]
    exact fun u i => u.storeRec_groups i emptyRec
  · rfl

@[simp] theorem State.reload_groups (s : State) (i n : Nat) (ks : List Nat) : (s.reload i n ks).lmu.groups = s.lmu.groups := by
  induction ks generalizing s with
  | nil => rfl
  | cons k ks ih =>
    simp only [State.reload, ih]
    split <;> simp

@[simp] theorem State.revertRecords_groups (s : State) : s.revertRecords.lmu.groups = s.lmu.groups :=
  foldl_groups _ _ s (fun t _ => t.writeRec_groups _ _)

/-! ### Migration slots -/

@[simp] theorem State.abandon_groups (s : State) (i : Nat) (why : Reason) : (s.abandon i why).lmu.groups = s.lmu.groups := by
  unfold State.abandon
  (repeat' split) <;> simp

@[simp] theorem State.abandonDone_groups (s : State) (i : Nat) (m : Move) : (s.abandonDone i m).lmu.groups = s.lmu.groups := by
  simp [State.abandonDone]

@[simp] theorem State.retireDone_groups (s : State) (i : Nat) (c : Claim) : (s.retireDone i c).lmu.groups = s.lmu.groups := by
  simp [State.retireDone]

@[simp] theorem State.flip_groups (s : State) (i : Nat) : (s.flip i).lmu.groups = s.lmu.groups := by
  unfold State.flip
  (repeat' split) <;> simp

@[simp] theorem State.flushDone_groups (s : State) (i : Nat) (q : Byte) (o : FragOutcome) :
    (s.flushDone i q o).lmu.groups = s.lmu.groups := by
  simp only [State.flushDone]
  (repeat' split) <;> simp

@[simp] theorem State.issueFlush_groups (s : State) (i : Nat) (c : Claim) (m : Move) :
    (s.issueFlush i c m).lmu.groups = s.lmu.groups := by
  simp only [State.issueFlush]
  split <;> simp

@[simp] theorem State.tryFlush_groups (s : State) (i : Nat) : (s.tryFlush i).lmu.groups = s.lmu.groups := by
  simp only [State.tryFlush]
  (repeat' split) <;> simp

@[simp] theorem State.tryFinish_groups (s : State) (i : Nat) : (s.tryFinish i).lmu.groups = s.lmu.groups := by
  simp only [State.tryFinish]
  (repeat' split) <;> simp

@[simp] theorem State.settleSlot_groups (s : State) (i : Nat) : (s.settleSlot i).lmu.groups = s.lmu.groups := by
  simp [State.settleSlot]

@[simp] theorem State.settle_groups (s : State) : s.settle.lmu.groups = s.lmu.groups := by simp [State.settle]

@[simp] theorem State.claimZero_groups (s : State) (i v x j : Nat) : (s.claimZero i v x j).lmu.groups = s.lmu.groups := by
  simp [State.claimZero]

@[simp] theorem State.claimMove_groups (s : State) (i v x j : Nat) (l : Loc) :
    (s.claimMove i v x j l).lmu.groups = s.lmu.groups := by
  simp [State.claimMove]

@[simp] theorem State.cutoverExpired_groups (s : State) (i : Nat) : (s.cutoverExpired i).lmu.groups = s.lmu.groups := by
  simp only [State.cutoverExpired]
  (repeat' split) <;> simp

@[simp] theorem State.takeFence_groups (s : State) (i : Nat) : (s.takeFence i).lmu.groups = s.lmu.groups := by
  unfold State.takeFence
  (repeat' split) <;> simp

@[simp] theorem State.takeExit_groups (s : State) (i p : Nat) : (s.takeExit i p).lmu.groups = s.lmu.groups := by
  unfold State.takeExit
  (repeat' split) <;> simp

@[simp] theorem State.zeroingDone_groups (s : State) (i : Nat) : (s.zeroingDone i).lmu.groups = s.lmu.groups := by
  unfold State.zeroingDone
  (repeat' split) <;> simp

@[simp] theorem State.copyDone_groups (s : State) (i k : Nat) (o : CopyOutcome) : (s.copyDone i k o).lmu.groups = s.lmu.groups := by
  simp only [State.copyDone]
  (repeat' split) <;> simp

@[simp] theorem State.exitReport_groups (s : State) (i p : Nat) : (s.exitReport i p).lmu.groups = s.lmu.groups := by
  unfold State.exitReport
  split <;> simp

@[simp] theorem State.fenceTaken_groups (s : State) (i : Nat) : (s.fenceTaken i).lmu.groups = s.lmu.groups := by
  unfold State.fenceTaken
  split <;> simp

/-! ### Admission -/

/-- Check 8 at one extent writes a record when it claims a ZERO slot, and no descriptor (R40, R106). -/
@[simp] theorem State.holdExtent_groups (s : State) (e : Nat) (c : Command) (v x j : Nat) :
    (s.holdExtent e c v x j).state.lmu.groups = s.lmu.groups := by
  simp only [State.holdExtent]
  (repeat' split) <;> simp

@[simp] theorem State.holdExtents_groups (s : State) (e : Nat) (c : Command) (v b : Nat) (xs : List Nat) :
    (s.holdExtents e c v b xs).state.lmu.groups = s.lmu.groups := by
  induction xs generalizing s with
  | nil => rfl
  | cons x xs ih =>
    have hx := s.holdExtent_groups e c v x (b + x)
    rw [State.holdExtents]
    cases hr : s.holdExtent e c v x (b + x) with
    | stopped t => rwa [hr] at hx
    | goOn t => rw [hr] at hx; exact (ih t).trans hx

@[simp] theorem State.check8_groups (s : State) (e : Nat) (c : Command) : (s.check8 e c).lmu.groups = s.lmu.groups := by
  simp only [State.check8]
  split
  · split
    all_goals
      next t ht =>
        have hs := congrArg (fun r => r.state.lmu.groups) ht
        simpa using hs.symm
  · simp

@[simp] theorem State.checkData_groups (s : State) (e : Nat) (c : Command) : (s.checkData e c).lmu.groups = s.lmu.groups := by
  simp only [State.checkData]
  (repeat' split) <;> simp

@[simp] theorem State.runChecks_groups (s : State) (e : Nat) (p : HostPort) (r : CommandRecord) :
    (s.runChecks e p r).lmu.groups = s.lmu.groups := by
  simp only [State.runChecks]
  (repeat' split) <;> simp

@[simp] theorem State.takeHead_groups (s : State) (p : HostPort) : (s.takeHead p).lmu.groups = s.lmu.groups := by
  unfold State.takeHead
  (repeat' split) <;> simp

@[simp] theorem State.serve_groups (s : State) : s.serve.lmu.groups = s.lmu.groups := by
  simp only [State.serve]
  (repeat' split) <;> simp

/-! ### Lanes and shelf ports -/

@[simp] theorem State.takeGrant_groups (s : State) (i : Nat) : (s.takeGrant i).lmu.groups = s.lmu.groups := by
  simp only [State.takeGrant]
  (repeat' split) <;> simp

@[simp] theorem State.takeCompletion_groups (s : State) (l : Nat) : (s.takeCompletion l).lmu.groups = s.lmu.groups := by
  simp only [State.takeCompletion]
  (repeat' split) <;> simp

@[simp] theorem State.completeFlush_groups (s : State) (f : FlushFrag) (o : FragOutcome) :
    (s.completeFlush f o).lmu.groups = s.lmu.groups := by
  simp [State.completeFlush]

@[simp] theorem State.loseFlush_groups (s : State) (f : FlushFrag) : (s.loseFlush f).lmu.groups = s.lmu.groups := by
  simp only [State.loseFlush]
  (repeat' split) <;> simp

@[simp] theorem State.failFlush_groups (s : State) (p : Nat) : (s.failFlush p).lmu.groups = s.lmu.groups :=
  foldl_groups _ _ s State.loseFlush_groups

@[simp] theorem State.leaveEffects_groups (s : State) (p : Nat) : (s.leaveEffects p).lmu.groups = s.lmu.groups := by
  simp [State.leaveEffects]

/-- A port that leaves ONLINE, or moves otherwise, leaves the groups with members on it as they were (R18, R141). -/
@[simp] theorem State.move_groups (s : State) (p : Nat) (x : Port) : (s.move p x).lmu.groups = s.lmu.groups := by
  unfold State.move
  split <;> simp

@[simp] theorem State.trip_groups (s : State) (p : Nat) : (s.trip p).lmu.groups = s.lmu.groups := by
  unfold State.trip
  split <;> simp

@[simp] theorem State.repower_groups (s : State) (p : Nat) : (s.repower p).lmu.groups = s.lmu.groups := by
  simp only [State.repower]
  (repeat' split) <;> simp

@[simp] theorem State.repowerAll_groups (s : State) : s.repowerAll.lmu.groups = s.lmu.groups := foldl_groups _ _ s State.repower_groups

@[simp] theorem State.takeRecord_groups (s : State) (p : Nat) (r : CompletionRecord) :
    (s.takeRecord p r).lmu.groups = s.lmu.groups := by
  unfold State.takeRecord
  (repeat' split) <;> simp

@[simp] theorem State.currentFault_groups (s : State) (p : Nat) : (s.currentFault p).lmu.groups = s.lmu.groups := by
  simp only [State.currentFault]
  (repeat' split) <;> simp

@[simp] theorem State.inventory_groups (s : State) (p : Nat) (es : List SlotEntry) : (s.inventory p es).lmu.groups = s.lmu.groups := by
  simp only [State.inventory]
  (repeat' split) <;> simp

@[simp] theorem State.driveReport_groups (s : State) (p : Nat) (d : Byte) (e : SlotEntry) :
    (s.driveReport p d e).lmu.groups = s.lmu.groups := by
  unfold State.driveReport
  split <;> simp

@[simp] theorem State.linkLost_groups (s : State) (p : Nat) : (s.linkLost p).lmu.groups = s.lmu.groups := by
  simp only [State.linkLost]
  split <;> simp

@[simp] theorem State.completionRecord_groups (s : State) (p : Nat) (r : CompletionRecord) :
    (s.completionRecord p r).lmu.groups = s.lmu.groups := by
  unfold State.completionRecord
  split <;> simp

@[simp] theorem State.fragmentExpires_groups (s : State) (n : Nat) : (s.fragmentExpires n).lmu.groups = s.lmu.groups := by
  unfold State.fragmentExpires
  split <;> simp

@[simp] theorem State.laneFragmentExpires_groups (s : State) (l j : Nat) : (s.laneFragmentExpires l j).lmu.groups = s.lmu.groups := by
  unfold State.laneFragmentExpires
  split <;> simp

@[simp] theorem State.flushFragmentExpires_groups (s : State) (i : Nat) (q : Byte) (p : Nat) :
    (s.flushFragmentExpires i q p).lmu.groups = s.lmu.groups := by
  unfold State.flushFragmentExpires
  split <;> simp

/-! ### The requests -/

@[simp] theorem powerModeEffect_groups (m : PowerMode) (s : State) : (powerModeEffect m s).lmu.groups = s.lmu.groups := by
  simp only [powerModeEffect]
  split <;> simp

@[simp] theorem powerShelvesEffect_groups (on : Bool) (s : State) : (powerShelvesEffect on s).lmu.groups = s.lmu.groups := by
  simp only [powerShelvesEffect]
  split <;> simp

@[simp] theorem powerPortEffect_groups (p : Nat) (on follow : Bool) (s : State) :
    (powerPortEffect p on follow s).lmu.groups = s.lmu.groups := by
  simp only [powerPortEffect]
  (repeat' split) <;> simp

@[simp] theorem resetShelfPortEffect_groups (p : Nat) (s : State) : (resetShelfPortEffect p s).lmu.groups = s.lmu.groups := by
  simp only [resetShelfPortEffect]
  (repeat' split) <;> simp

@[simp] theorem loadVolumeEffect_groups (v m n d : Nat) (s : State) : (loadVolumeEffect v m n d s).lmu.groups = s.lmu.groups := rfl

@[simp] theorem setVolumeStateEffect_groups (v st : Nat) (s : State) :
    (setVolumeStateEffect v st s).lmu.groups = s.lmu.groups := by
  unfold setVolumeStateEffect
  split <;> simp

@[simp] theorem loadExtentsEffect_groups (v f : Nat) (rs : List ExtentArg) (s : State) :
    (loadExtentsEffect v f rs s).lmu.groups = s.lmu.groups := by
  simp only [loadExtentsEffect]
  (repeat' split) <;> simp

@[simp] theorem growVolumeEffect_groups (v : Nat) (ls : List (Nat × Nat)) (s : State) :
    (growVolumeEffect v ls s).lmu.groups = s.lmu.groups := by
  unfold growVolumeEffect
  split <;> simp

@[simp] theorem setDivertEffect_groups (part : Option (Nat × Nat)) (x : Option Nat) (s : State) :
    (setDivertEffect part x s).lmu.groups = s.lmu.groups := by
  simp only [setDivertEffect]
  (repeat' split) <;> simp

@[simp] theorem State.repoint_groups (s : State) (j : Nat) (l : Loc) : (s.repoint j l).lmu.groups = s.lmu.groups := by
  simp [State.repoint]

@[simp] theorem migrateEffect_groups (v x g b : Nat) (s : State) : (migrateEffect v x g b s).1.lmu.groups = s.lmu.groups := by
  simp only [migrateEffect]
  (repeat' split) <;> simp

@[simp] theorem abortEffect_groups (v x : Nat) (s : State) : (abortEffect v x s).lmu.groups = s.lmu.groups := by
  unfold abortEffect
  (repeat' split) <;> simp

/-- RESET BRIDGE reverts records and releases slot holds, and leaves the descriptors alone (R18, R175). -/
@[simp] theorem State.bridgeReset_groups (s : State) : s.bridgeReset.lmu.groups = s.lmu.groups := by
  simp [State.bridgeReset]

/-! ### The shapes of a command's meaning -/

theorem State.event_groups {s t : State} {f : State → State} (hf : ∀ u, (f u).lmu.groups = u.lmu.groups) (h : s.event f = .next t) :
    t.lmu.groups = s.lmu.groups := by
  rw [State.event_next h]
  split
  · rfl
  · exact hf s

theorem State.manage_groups {s t : State} {i : Instr} {code : BitVec 16} {f : State → State × Reply}
    (hf : ∀ u, (f u).1.lmu.groups = u.lmu.groups) (h : s.manage i code f = .next t) : t.lmu.groups = s.lmu.groups := by
  refine State.event_groups (fun u => ?_) h
  split
  · simp [hf]
  · rfl

theorem State.runRequest_groups {s t : State} {i : Instr} {code : BitVec 16} {refusal : State → Option Refuse}
    {effect : State → State × List Byte} (hf : ∀ u, (effect u).1.lmu.groups = u.lmu.groups)
    (h : s.runRequest i code refusal effect = .next t) : t.lmu.groups = s.lmu.groups := by
  obtain ht | ⟨r, ht⟩ | ht := State.runRequest_next h
  · rw [ht]
  · simp [ht]
  · simp [ht, hf]

theorem State.runWork_groups {s t : State} {i : Instr} {code : BitVec 16} {refusal : State → Option Refuse}
    {effect : State → State × List Byte} (hf : ∀ u, (effect u).1.lmu.groups = u.lmu.groups)
    (h : s.runWork i code refusal effect = .next t) : t.lmu.groups = s.lmu.groups := by
  obtain ht | ⟨r, ht⟩ | ht := State.runWork_next h
  · rw [ht]
  · simp [ht]
  · simp [ht, hf]

/-! ### Every command -/

/-- Every command that is not one of R18's writers leaves the Group Table as it was: an event by its operation, a request by its effect
and its response. -/
theorem exec_groups {c : Instr} {s t : State} (hc : writesGroups c = false) (h : exec c s = .next t) :
    t.lmu.groups = s.lmu.groups := by
  cases c with
  | loadGroup | activateGroup | deactivateGroup | resetnAssert | resetnRelease => cases hc
  | commandRecord | takeQueueHead | serveReentry | hostPortReset =>
    simp only [exec, execCommandRecord, execTakeQueueHead, execServeReentry, execHostPortReset] at h
    exact State.event_groups (by simp) h
  | laneGrant | takeGrant | copyCompletion | cutoverTimerExpiry | portExitReport | fenceReport =>
    simp only [exec, execLaneGrant, execTakeGrant, execCopyCompletion, execCutoverTimerExpiry, execPortExitReport,
      execFenceReport] at h
    exact State.event_groups (by simp) h
  | shelfCompletionRecord | fragmentTimerExpiry | laneFragmentTimerExpiry | flushFragmentTimerExpiry =>
    simp only [exec, execShelfCompletionRecord, execFragmentTimerExpiry, execLaneFragmentTimerExpiry,
      execFlushFragmentTimerExpiry] at h
    exact State.event_groups (by simp) h
  | settleTimerExpiry | inventoryReport | linkTimerExpiry | slotChangeReport | shelfLinkLoss =>
    simp only [exec, execSettleTimerExpiry, execInventoryReport, execLinkTimerExpiry, execSlotChangeReport,
      execShelfLinkLoss] at h
    exact State.event_groups (by simp) h
  | diversionTimerExpiry | windowEnd | scrubVisit | mapMemoryFault =>
    simp only [exec, execDiversionTimerExpiry, execWindowEnd, execScrubVisit, execMapMemoryFault] at h
    exact State.event_groups (by simp) h
  | resetBridge =>
    unfold exec execResetBridge at h
    refine State.event_groups (fun u => ?_) h
    split <;> simp
  | currentFault | currentFaultDeassert =>
    cases h
    simp
  | readGroup | loadVolume | setVolumeState | readVolume | loadExtents | readExtents =>
    simp only [exec, execReadGroup, execLoadVolume, execSetVolumeState, execReadVolume, execLoadExtents, execReadExtents] at h
    exact State.runRequest_groups (by simp) h
  | loadInitiator | dropInitiator | readInitiators | growVolume =>
    simp only [exec, execLoadInitiator, execDropInitiator, execReadInitiators, execGrowVolume] at h
    exact State.runRequest_groups (by simp) h
  | pauseSlot | resumeSlot | readSlot | setCopyPolicy | setGovernor | readSample =>
    simp only [exec, execPauseSlot, execResumeSlot, execReadSlot, execSetCopyPolicy, execSetGovernor, execReadSample] at h
    exact State.runRequest_groups (by simp) h
  | setDivert | readDiversions | resolve | readShelf | setFragmentTimeout | setScrub =>
    simp only [exec, execSetDivert, execReadDiversions, execResolve, execReadShelf, execSetFragmentTimeout, execSetScrub] at h
    exact State.runRequest_groups (by simp) h
  | readNotices | setNoticeMask | readFaults | clearFaults | setFaultMasks =>
    simp only [exec, execReadNotices, execSetNoticeMask, execReadFaults, execClearFaults, execSetFaultMasks] at h
    exact State.runRequest_groups (by simp) h
  | migrate | abortMigration | powerShelves | powerPort | resetShelfPort =>
    simp only [exec, execMigrate, execAbortMigration, execPowerShelves, execPowerPort, execResetShelfPort] at h
    exact State.runWork_groups (by simp) h
  | setPowerMode m =>
    unfold exec execSetPowerMode at h
    refine State.runWork_groups (fun u => ?_) h
    cases modeOf? m <;> simp
  | checkDiagnostic | unknownRequestCode =>
    simp only [exec, execCheckDiagnostic, execUnknownRequestCode] at h
    exact State.manage_groups (by simp) h

/-- Settles O19: power-on starts with an empty table, the rest is the frame of every command (`exec_groups`). -/
theorem groupTableAcrossResets : Obligations.GroupTableAcrossResets := by
  unfold Obligations.GroupTableAcrossResets
  refine ⟨?assert, ?release, ?bytes, ?frame⟩
  case assert =>
    intro s t h g
    cases h
    rfl
  case release =>
    intro s t hs h g
    have ht : t = s.powerOn false := by
      cases h
      exact if_pos hs
    rw [ht]
    rfl
  case bytes => intro g; rfl
  case frame => exact fun c s t => exec_groups

end Sys2Proof.Machine
end

section
/-! PROOFS. The admission queues in the HLI and the Initiator Table in the CAU (R27, R29, R34): which commands write each, and what those
that write a queue leave in it. Of an operation that leaves the HLI or the CAU alone, its `_keeps` lemma says so already. -/

namespace Sys2Proof.Machine

/-! ### The shapes of a command's meaning

`π` is any part of the state; a command keeps it if what the command is made of does. -/

/-- An event is discarded while RESETn is asserted, and taken otherwise (R177). -/
theorem State.event_cases {s t : State} {f : State → State} (h : s.event f = .next t) : t = s ∨ t = f s := by
  rw [State.event_next h]
  exact (em _).imp (fun hr => if_pos hr) (fun hr => if_neg hr)

theorem State.event_frame {α : Type} (π : State → α) {s t : State} {f : State → State} (hf : ∀ u, π (f u) = π u)
    (h : s.event f = .next t) : π t = π s := by
  obtain ht | ht := State.event_cases h
  · rw [ht]
  · rw [ht, hf]

theorem State.manage_frame {α : Type} (π : State → α) {s t : State} {i : Instr} {code : BitVec 16} {f : State → State × Reply}
    (hr : ∀ u c r, π (State.respond u c r) = π u) (hf : ∀ u, π (f u).1 = π u) (h : s.manage i code f = .next t) : π t = π s := by
  refine State.event_frame π (fun u => ?_) h
  split
  · exact (hr _ _ _).trans (hf u)
  · rfl

theorem State.runRequest_frame {α : Type} (π : State → α) {s t : State} {i : Instr} {code : BitVec 16}
    {refusal : State → Option Refuse} {effect : State → State × List Byte} (hr : ∀ u c r, π (State.respond u c r) = π u)
    (hf : ∀ u, π (effect u).1 = π u) (h : s.runRequest i code refusal effect = .next t) : π t = π s := by
  obtain ht | ⟨r, ht⟩ | ht := State.runRequest_next h
  · rw [ht]
  · rw [ht, hr]
  · rw [ht, hr, hf]

theorem State.runWork_frame {α : Type} (π : State → α) {s t : State} {i : Instr} {code : BitVec 16}
    {refusal : State → Option Refuse} {effect : State → State × List Byte} (hr : ∀ u c r, π (State.respond u c r) = π u)
    (hs : ∀ u : State, π u.settle = π u) (hf : ∀ u, π (effect u).1 = π u) (h : s.runWork i code refusal effect = .next t) :
    π t = π s := by
  obtain ht | ⟨r, ht⟩ | ht := State.runWork_next h
  · rw [ht]
  · rw [ht, hr]
  · rw [ht, hs, hr, hf]

/-! ### The commands that write a queue, as events -/

theorem exec_commandRecord (p : HostPort) (r : CommandRecord) (s : State) :
    exec (.commandRecord p r) s = s.event (fun t => t.arrive p r) := rfl

theorem exec_takeQueueHead (p : HostPort) (s : State) : exec (.takeQueueHead p) s = s.event (fun t => t.takeHead p) := rfl

theorem exec_hostPortReset (p : HostPort) (s : State) :
    exec (.hostPortReset p) s = s.event (fun t => (t.hostReset p).settle) := rfl

theorem exec_resetBridge (s : State) : exec .resetBridge s = s.event (fun t =>
    if t.takes .resetBridge then (t.respond 38 { refused := none, body := [] }).bridgeReset else t) := rfl

/-! ### The writers of the queues and of the Initiator Table -/

/-- The commands that may write the HLI: an arriving record, one taken, and the resets (R27, R29). -/
def WritesQueues (c : Instr) : Prop :=
  (∃ p r, c = .commandRecord p r) ∨ (∃ p, c = .takeQueueHead p) ∨ (∃ p, c = .hostPortReset p) ∨ c = .resetBridge ∨
    isPowerReset c = true

/-- The HLI and the CAU together, which most commands leave as they were. -/
def State.admission (s : State) : Hli × Cau := (s.hli, s.cau)

@[simp] theorem State.admission_eq_iff (s t : State) : t.admission = s.admission ↔ t.hli = s.hli ∧ t.cau = s.cau :=
  Prod.mk_inj

theorem State.hli_respond (s : State) (c : BitVec 16) (r : Reply) : (s.respond c r).hli = s.hli := by simp

theorem State.hli_settle (s : State) : s.settle.hli = s.hli := by simp

theorem State.admission_respond (s : State) (c : BitVec 16) (r : Reply) : (s.respond c r).admission = s.admission := by simp

theorem State.admission_settle (s : State) : s.settle.admission = s.admission := by simp

/-- Every command leaves the HLI as it was unless it is a writer of the queues, and the CAU unless it is one of R34's writers: an event by its
operation, a request by its effect and its response. (`delta` suffices: `exec` meets a constructor in each case.) -/
theorem exec_admission {c : Instr} {s t : State} (h : exec c s = .next t) :
    (t.hli = s.hli ∨ WritesQueues c) ∧ (t.cau = s.cau ∨ writesInitiators c = true) := by
  have keepsBoth (ha : t.admission = s.admission) :
      (t.hli = s.hli ∨ WritesQueues c) ∧ (t.cau = s.cau ∨ writesInitiators c = true) :=
    ⟨.inl (congrArg Prod.fst ha), .inl (congrArg Prod.snd ha)⟩
  cases c with
  | takeQueueHead => exact ⟨.inr (.inr (.inl ⟨_, rfl⟩)), .inr rfl⟩
  | resetnAssert | resetnRelease => exact ⟨.inr (.inr (.inr (.inr (.inr rfl)))), .inr rfl⟩
  | commandRecord =>
    rw [exec_commandRecord] at h
    exact ⟨.inr (.inl ⟨_, _, rfl⟩), .inl (State.event_frame State.cau (by simp) h)⟩
  | hostPortReset =>
    rw [exec_hostPortReset] at h
    exact ⟨.inr (.inr (.inr (.inl ⟨_, rfl⟩))), .inl (State.event_frame State.cau (by simp) h)⟩
  | resetBridge =>
    rw [exec_resetBridge] at h
    refine ⟨.inr (.inr (.inr (.inr (.inl rfl)))), .inl (State.event_frame State.cau (fun u => ?_) h)⟩
    split <;> simp
  | serveReentry => exact ⟨.inl (State.event_frame State.hli (by simp) h), .inr rfl⟩
  | loadInitiator | dropInitiator | growVolume | loadExtents =>
    delta exec execLoadInitiator execDropInitiator execGrowVolume execLoadExtents at h
    exact ⟨.inl (State.runRequest_frame State.hli State.hli_respond (by simp) h), .inr rfl⟩
  | currentFault | currentFaultDeassert =>
    cases h
    exact keepsBoth (by simp)
  | laneGrant | takeGrant | copyCompletion | cutoverTimerExpiry | portExitReport | fenceReport =>
    delta exec execLaneGrant execTakeGrant execCopyCompletion execCutoverTimerExpiry execPortExitReport execFenceReport at h
    exact keepsBoth (State.event_frame State.admission (by simp) h)
  | shelfCompletionRecord | fragmentTimerExpiry | laneFragmentTimerExpiry | flushFragmentTimerExpiry =>
    delta exec execShelfCompletionRecord execFragmentTimerExpiry execLaneFragmentTimerExpiry execFlushFragmentTimerExpiry at h
    exact keepsBoth (State.event_frame State.admission (by simp) h)
  | settleTimerExpiry | inventoryReport | linkTimerExpiry | slotChangeReport | shelfLinkLoss =>
    delta exec execSettleTimerExpiry execInventoryReport execLinkTimerExpiry execSlotChangeReport execShelfLinkLoss at h
    exact keepsBoth (State.event_frame State.admission (by simp) h)
  | diversionTimerExpiry | windowEnd | scrubVisit | mapMemoryFault =>
    delta exec execDiversionTimerExpiry execWindowEnd execScrubVisit execMapMemoryFault at h
    exact keepsBoth (State.event_frame State.admission (by simp) h)
  | loadGroup | activateGroup | deactivateGroup | readGroup | loadVolume | setVolumeState | readVolume | readExtents =>
    delta exec execLoadGroup execActivateGroup execDeactivateGroup execReadGroup execLoadVolume execSetVolumeState execReadVolume
      execReadExtents at h
    exact keepsBoth (State.runRequest_frame State.admission State.admission_respond (by simp) h)
  | readInitiators | pauseSlot | resumeSlot | readSlot | setCopyPolicy | setGovernor | readSample =>
    delta exec execReadInitiators execPauseSlot execResumeSlot execReadSlot execSetCopyPolicy execSetGovernor execReadSample at h
    exact keepsBoth (State.runRequest_frame State.admission State.admission_respond (by simp) h)
  | setDivert | readDiversions | resolve | readShelf | setFragmentTimeout | setScrub =>
    delta exec execSetDivert execReadDiversions execResolve execReadShelf execSetFragmentTimeout execSetScrub at h
    exact keepsBoth (State.runRequest_frame State.admission State.admission_respond (by simp) h)
  | readNotices | setNoticeMask | readFaults | clearFaults | setFaultMasks =>
    delta exec execReadNotices execSetNoticeMask execReadFaults execClearFaults execSetFaultMasks at h
    exact keepsBoth (State.runRequest_frame State.admission State.admission_respond (by simp) h)
  | migrate | abortMigration | powerShelves | powerPort | resetShelfPort =>
    delta exec execMigrate execAbortMigration execPowerShelves execPowerPort execResetShelfPort at h
    exact keepsBoth (State.runWork_frame State.admission State.admission_respond State.admission_settle (by simp) h)
  | setPowerMode m =>
    delta exec execSetPowerMode at h
    refine keepsBoth (State.runWork_frame State.admission State.admission_respond State.admission_settle (fun u => ?_) h)
    cases modeOf? m <;> simp
  | checkDiagnostic | unknownRequestCode =>
    delta exec execCheckDiagnostic execUnknownRequestCode at h
    exact keepsBoth (State.manage_frame State.admission State.admission_respond (by simp) h)

theorem exec_cau {c : Instr} {s t : State} (hc : writesInitiators c = false) (h : exec c s = .next t) : t.cau = s.cau :=
  (exec_admission h).2.resolve_right (by simp [hc])

/-! ### Power-on -/

theorem exec_resetnAssert_next {s t : State} (h : exec .resetnAssert s = .next t) : t = s.powerOn true := by
  cases h
  rfl

theorem exec_resetnRelease_next {s t : State} (hs : s.resetn = true) (h : exec .resetnRelease s = .next t) : t = s.powerOn false := by
  cases h
  exact if_pos hs

@[simp] theorem State.powerOn_cau (s : State) (v : Bool) : (s.powerOn v).cau = ⟨[]⟩ := rfl

@[simp] theorem State.powerOn_queue (s : State) (v : Bool) (p : HostPort) : (s.powerOn v).queue p = [] := by cases p <;> rfl

/-- The bootstrap case of R36: with no entry that holds MANAGE, a CONTROL on HP0 passes check 3. -/
theorem State.check3_bootstrap {s : State} {r : CommandRecord} (hs : s.managed = false) (hr : r.kind = .control) :
    s.check3 .hp0 r = true := if_pos ⟨hr, rfl, hs⟩

/-- Settles O20: the table is free at power-on, so that R36's bootstrap case holds, and the rest is the frame of every command
(`exec_cau`). -/
theorem initiatorTableAcrossResets : Obligations.InitiatorTableAcrossResets := by
  unfold Obligations.InitiatorTableAcrossResets
  refine ⟨?assert, ?release, ?frame⟩
  case assert =>
    intro s t h
    rw [exec_resetnAssert_next h, State.powerOn_cau]
  case release =>
    intro s t hs h
    rw [exec_resetnRelease_next hs h]
    exact ⟨rfl, fun r => State.check3_bootstrap rfl⟩
  case frame => exact fun c s t => exec_cau

/-! ### What the writers of the queues leave in them -/

/-- The queues are part of the HLI. -/
theorem State.queue_congr {s t : State} (h : t.hli = s.hli) (p : HostPort) : t.queue p = s.queue p := by
  cases p <;> simp only [State.queue, h]

@[simp] theorem State.queue_settle (s : State) (p : HostPort) : s.settle.queue p = s.queue p := State.queue_congr (by simp) p

theorem otherPort_ne (p : HostPort) : p.other ≠ p := by cases p <;> decide

/-- An arriving record joins the tail of its own port's queue, where there is room (R27). -/
theorem State.queue_arrive (s : State) (p q : HostPort) (r : CommandRecord) :
    (s.arrive p r).queue q = if q = p ∧ (s.queue p).length < 128 then s.queue q ++ [r] else s.queue q := by
  unfold State.arrive
  by_cases hroom : (s.queue p).length < 128
  · by_cases hq : q = p
    · subst hq; simp [hroom, State.queue_setQueue]
    · simp [hroom, State.queue_setQueue, hq]
  · simp only [hroom, if_false, and_false]
    exact State.queue_congr rfl q

@[simp] theorem State.queue_runChecks (s : State) (e : Nat) (p q : HostPort) (r : CommandRecord) :
    (s.runChecks e p r).queue q = s.queue q := State.queue_congr (by simp) q

theorem State.queue_setServedLast (s : State) (p q : HostPort) :
    (s.setHli { s.hli with servedLast := p }).queue q = s.queue q := by cases q <;> rfl

/-- The head of a port's queue is taken from that queue, or it waits (R28). -/
theorem State.queue_takeHead (s : State) (p q : HostPort) :
    (s.takeHead p).queue q = s.queue q ∨ q = p ∧ (s.takeHead p).queue q = (s.queue q).tail := by
  unfold State.takeHead
  split
  · exact .inl rfl
  · next r rest hp =>
    split
    · simp only [State.queue_settle, State.queue_runChecks, State.queue_setServedLast, State.queue_setQueue]
      by_cases hq : q = p
      · subst hq; exact .inr ⟨rfl, by simp [hp]⟩
      · exact .inl (if_neg hq)
    · exact .inl rfl

/-- A host port reset empties its own port's queue alone (R29, R49). -/
theorem State.queue_hostReset (s : State) (p q : HostPort) : (s.hostReset p).queue q = if q = p then [] else s.queue q := by
  have hcut : (s.hostReset p).hli = ((s.cutRequests p).setQueue p []).hli := by
    simp only [State.hostReset, State.setLinkResets_keeps, State.forget_keeps, State.undivert_keeps, State.unhold_keeps]
  rw [State.queue_congr hcut, State.queue_setQueue, State.queue_congr (s := s) (by simp)]

/-- Statuses that leave one after another: the rest of the state is as it was. -/
theorem foldl_sendHost (p : HostPort) (g : CommandRecord → StatusRecord) (l : List CommandRecord) (s : State) :
    l.foldl (fun t r => t.sendHost p (g r)) s = { s with hostOut := s.hostOut ++ l.map (fun r => (p, g r)) } := by
  induction l generalizing s with
  | nil => simp
  | cons r l ih =>
    rw [List.foldl_cons, ih]
    simp [State.sendHost]

/-- RESET BRIDGE empties a port's queue with an ABORTED for each command in it, in order (R29, R50). -/
theorem State.abortQueue_eq (s : State) (p : HostPort) :
    s.abortQueue p = { s.setQueue p [] with
      hostOut := s.hostOut ++ (s.queue p).map (fun r => (p, plainStatus r.tag .aborted)) } := by
  rw [State.abortQueue, foldl_sendHost]
  simp

theorem State.queue_abortQueue (s : State) (p q : HostPort) : (s.abortQueue p).queue q = if q = p then [] else s.queue q := by
  rw [← State.queue_setQueue, s.abortQueue_eq]
  exact State.queue_congr rfl q

theorem State.hostOut_abortQueue (s : State) (p : HostPort) :
    (s.abortQueue p).hostOut = s.hostOut ++ (s.queue p).map (fun r => (p, plainStatus r.tag .aborted)) := by
  rw [State.abortQueue_eq]

/-- RESET BRIDGE leaves both queues empty (R29, R175). -/
theorem State.queue_bridgeReset (s : State) (p : HostPort) : s.bridgeReset.queue p = [] := by
  have hhli : s.bridgeReset.hli = ((s.abortQueue .hp0).abortQueue .hp1).hli := by simp [State.bridgeReset]
  rw [State.queue_congr hhli, State.queue_abortQueue, State.queue_abortQueue]
  cases p <;> rfl

/-- RESETn empties both queues, and its release where it is not asserted does nothing (R29, R177). -/
theorem exec_powerReset_queue {c : Instr} {s t : State} (hc : isPowerReset c = true) (h : exec c s = .next t) (p : HostPort) :
    t.queue p = s.queue p ∨ t.queue p = [] := by
  unfold isPowerReset at hc
  split at hc
  · rw [exec_resetnAssert_next h]
    exact .inr (s.powerOn_queue true p)
  · cases hs : s.resetn with
    | true =>
      rw [exec_resetnRelease_next hs h]
      exact .inr (s.powerOn_queue false p)
    | false =>
      cases h
      exact .inl (by simp [hs])
  · cases hc

/-- What one command can do to a port's queue: leave it, join a record to its tail, take its head, or empty it (R27, R29). -/
theorem exec_queue {c : Instr} {s t : State} (h : exec c s = .next t) (p : HostPort) :
    t.queue p = s.queue p ∨
    (∃ r, c = .commandRecord p r ∧ (s.queue p).length < 128 ∧ t.queue p = s.queue p ++ [r]) ∨
    (c = .takeQueueHead p ∧ t.queue p = (s.queue p).tail) ∨
    ((c = .hostPortReset p ∨ c = .resetBridge ∨ isPowerReset c = true) ∧ t.queue p = []) := by
  obtain hsame | ⟨q, r, rfl⟩ | ⟨q, rfl⟩ | ⟨q, rfl⟩ | rfl | hpower := (exec_admission h).1
  · exact .inl (State.queue_congr hsame p)
  · rw [exec_commandRecord] at h
    obtain ht | ht := State.event_cases h <;> rw [ht]
    · exact .inl rfl
    · rw [State.queue_arrive]
      split
      next hroom =>
        obtain ⟨rfl, hlt⟩ := hroom
        exact .inr (.inl ⟨r, rfl, hlt, rfl⟩)
      next => exact .inl rfl
  · rw [exec_takeQueueHead] at h
    obtain ht | ht := State.event_cases h <;> rw [ht]
    · exact .inl rfl
    · obtain hwait | ⟨rfl, htail⟩ := s.queue_takeHead q p
      · exact .inl hwait
      · exact .inr (.inr (.inl ⟨rfl, htail⟩))
  · rw [exec_hostPortReset] at h
    obtain ht | ht := State.event_cases h <;> rw [ht]
    · exact .inl rfl
    · rw [State.queue_settle, State.queue_hostReset]
      split
      next hq => exact .inr (.inr (.inr ⟨.inl (hq ▸ rfl), rfl⟩))
      next => exact .inl rfl
  · rw [exec_resetBridge] at h
    obtain ht | ht := State.event_cases h <;> rw [ht]
    · exact .inl rfl
    · split
      · exact .inr (.inr (.inr ⟨.inr (.inl rfl), State.queue_bridgeReset _ p⟩))
      · exact .inl rfl
  · obtain hsame | hempty := exec_powerReset_queue hpower h p
    · exact .inl hsame
    · exact .inr (.inr (.inr ⟨.inr (.inr hpower), hempty⟩))

/-! ### What RESET BRIDGE sends -/

theorem State.hostOut_answerWith (s : State) (e : Nat) (r : StatusRecord) : s.hostOut <+: (s.answerWith e r).hostOut := by
  unfold State.answerWith
  split
  · exact ⟨_, rfl⟩
  · exact ⟨[], List.append_nil _⟩

theorem State.hostOut_respond (s : State) (c : BitVec 16) (r : Reply) : s.hostOut <+: (s.respond c r).hostOut := by
  unfold State.respond State.answerRequest
  split
  · simp
  · simp only
    split
    · simp
    · refine List.IsPrefix.trans ?_ (State.hostOut_answerWith _ _ _)
      simp

theorem State.hostOut_abortEntry (s : State) (e : Nat) : s.hostOut <+: (s.abortEntry e).hostOut := by
  unfold State.abortEntry
  split
  · split
    · simp
    · exact State.hostOut_answerWith _ _ _
  · exact ⟨[], List.append_nil _⟩

theorem State.hostOut_abortCommands (s : State) : s.hostOut <+: s.abortCommands.hostOut := by
  unfold State.abortCommands
  generalize s.fre.commands.map (fun c => c.1) = es
  induction es generalizing s with
  | nil => exact ⟨[], List.append_nil _⟩
  | cons e es ih => exact (s.hostOut_abortEntry e).trans (ih _)

/-- RESET BRIDGE sends an ABORTED for each queued command of both ports, and then what the Command Table gives (R29, R50). -/
theorem State.hostOut_bridgeReset (s : State) :
    s.hostOut ++ ((s.queue .hp0).map (fun r => (HostPort.hp0, plainStatus r.tag .aborted))
      ++ (s.queue .hp1).map (fun r => (HostPort.hp1, plainStatus r.tag .aborted))) <+: s.bridgeReset.hostOut := by
  have hsent : s.bridgeReset.hostOut = ((s.abortQueue .hp0).abortQueue .hp1).abortCommands.hostOut := by simp [State.bridgeReset]
  have hqueues := ((s.abortQueue .hp0).abortQueue .hp1).hostOut_abortCommands
  rw [← hsent, State.hostOut_abortQueue, State.hostOut_abortQueue, State.queue_abortQueue] at hqueues
  simpa using hqueues

/-- What the command RESET BRIDGE leaves, where it is taken (R175). -/
theorem exec_resetBridge_next {s t : State} (hs : s.accepts .resetBridge) (h : exec .resetBridge s = .next t) :
    t = (s.respond 38 { refused := none, body := [] }).bridgeReset := by
  obtain ⟨hrun, htakes⟩ := hs
  rw [exec_resetBridge] at h
  rw [State.event_next h, hrun, if_neg Bool.false_ne_true, if_pos htakes]

/-- Settles O21: power-on by `powerOn_queue`, a host port reset by `queue_hostReset`, RESET BRIDGE by what it leaves in the queues and what
it sends, and RESET SHELF PORT by its effect, which keeps the HLI. -/
theorem admissionQueuesAcrossResets : Obligations.AdmissionQueuesAcrossResets := by
  unfold Obligations.AdmissionQueuesAcrossResets
  refine ⟨?assert, ?release, ?host, ?bridge, ?shelf⟩
  case assert =>
    intro s t h p
    rw [exec_resetnAssert_next h, State.powerOn_queue]
  case release =>
    intro s t hs h p
    rw [exec_resetnRelease_next hs h, State.powerOn_queue]
  case host =>
    intro s t p hs h
    rw [exec_hostPortReset] at h
    have ht : t = (s.hostReset p).settle := by
      rw [State.event_next h, hs, if_neg Bool.false_ne_true]
    have hq : ∀ q, t.queue q = if q = p then [] else s.queue q := by
      intro q
      rw [ht, State.queue_settle, State.queue_hostReset]
    exact ⟨(hq p).trans (if_pos rfl), (hq p.other).trans (if_neg (otherPort_ne p)), by simp [ht]⟩
  case bridge =>
    intro s t hs _ h
    rw [exec_resetBridge_next hs h]
    refine ⟨State.queue_bridgeReset _, ?_⟩
    obtain ⟨answered, hanswered⟩ := s.hostOut_respond 38 { refused := none, body := [] }
    obtain ⟨after, hafter⟩ := (s.respond 38 { refused := none, body := [] }).hostOut_bridgeReset
    have hsame : ∀ p, (s.respond 38 { refused := none, body := [] }).queue p = s.queue p := State.queue_congr (by simp)
    rw [← hafter, ← hanswered, hsame, hsame]
    simp only [List.append_assoc answered, List.append_assoc s.hostOut]
    exact ⟨_, rfl, ((List.sublist_append_left _ after).trans (List.sublist_append_right answered _)).subperm⟩
  case shelf =>
    intro s t n h
    delta exec execResetShelfPort at h
    exact State.queue_congr (State.runWork_frame State.hli State.hli_respond State.hli_settle (by simp) h)

/-- Settles O26: the arrival by its definition, the bound and the ways out of a queue by what each command can do to it (`exec_queue`). -/
theorem arrivingCommandJoinsItsQueue : Obligations.ArrivingCommandJoinsItsQueue := by
  unfold Obligations.ArrivingCommandJoinsItsQueue
  refine ⟨?arrives, ?bounded, ?stays⟩
  case arrives =>
    intro s p r hs
    rw [exec_commandRecord, State.event_of_released _ _ hs, State.arrive]
    exact ⟨fun hroom => by rw [if_pos hroom], fun hfull => by rw [if_neg hfull]; rfl⟩
  case bounded =>
    intro c s t p h hs
    obtain hkept | ⟨r, -, hroom, hjoined⟩ | ⟨-, htaken⟩ | ⟨-, hempty⟩ := exec_queue h p
    · rwa [hkept]
    · rw [hjoined, List.length_append, List.length_singleton]
      exact hroom
    · rw [htaken, List.length_tail]
      exact (Nat.sub_le _ _).trans hs
    · rw [hempty]
      exact Nat.zero_le _
  case stays =>
    intro c s t p h htake hhost hbridge hpower
    obtain hkept | ⟨r, -, -, hjoined⟩ | ⟨htaken, -⟩ | ⟨hreset | hreset | hreset, -⟩ := exec_queue h p
    · exact ⟨[], by rw [hkept, List.append_nil]⟩
    · exact ⟨[r], hjoined⟩
    · exact absurd htaken htake
    · exact absurd hreset hhost
    · exact absurd hreset hbridge
    · exact absurd hreset (by simp [hpower])

end Sys2Proof.Machine
end
